-- ==== Sys2Proof/Word.lean ====
section
/-! DEFINITION. The word types of the core (00_scope.md R8, R10): bytes, 16-bit words, and how two bytes make a word. -/

namespace Sys2Proof

/-- A byte: A, X, Y, S, P, an MPR, a memory byte (R8). -/
abbrev Byte := BitVec 8

/-- A 16-bit word: PC and every logical address (R8). -/
abbrev Word := BitVec 16

/-- `hi : lo` as one word, `hi * 256 + lo` (R10). -/
def mkWord (hi lo : Byte) : Word := hi ++ lo

/-- `w[7:0]` (R10). -/
def loByte (w : Word) : Byte := w.extractLsb' 0 8

/-- `w[15:8]` (R10). -/
def hiByte (w : Word) : Byte := w.extractLsb' 8 8

/-- A byte zero-extended to 16 bits (R10). -/
def zext (b : Byte) : Word := b.zeroExtend 16

end Sys2Proof
end

