-- ==== Sys2Proof/Syntax.lean ====
section
/-! DEFINITION. The instruction set as syntax: one constructor a row of spec/opcode_table.json (30_encoding.md R113),
named by the mnemonic and, where a mnemonic has several rows, the addressing mode. Operands (R112): `v` an immediate
byte, `z` a zero-page byte address, `addr` a 16-bit address, `rel` a displacement as the signed number it stands for,
`src`, `dst`, `len` the operands of a block transfer. -/

namespace Sys2Proof

/-- One constructor a row of the opcode table; the comment is the opcode byte, the assembler form and the rule. -/
inductive Instr where
  -- 40_arith_logic.md: Arithmetic, logic and compare
  | oraZpix (z : Byte)  -- $01 ORA (z,X), R154
  | oraZp (z : Byte)  -- $05 ORA z, R154
  | oraImm (v : Byte)  -- $09 ORA #i, R154
  | oraAbs (addr : Word)  -- $0D ORA a, R154
  | oraZpiy (z : Byte)  -- $11 ORA (z),Y, R154
  | oraZpi (z : Byte)  -- $12 ORA (z), R154
  | oraZpx (z : Byte)  -- $15 ORA z,X, R154
  | oraAbsy (addr : Word)  -- $19 ORA a,Y, R154
  | oraAbsx (addr : Word)  -- $1D ORA a,X, R154
  | andZpix (z : Byte)  -- $21 AND (z,X), R153
  | andZp (z : Byte)  -- $25 AND z, R153
  | andImm (v : Byte)  -- $29 AND #i, R153
  | andAbs (addr : Word)  -- $2D AND a, R153
  | andZpiy (z : Byte)  -- $31 AND (z),Y, R153
  | andZpi (z : Byte)  -- $32 AND (z), R153
  | andZpx (z : Byte)  -- $35 AND z,X, R153
  | andAbsy (addr : Word)  -- $39 AND a,Y, R153
  | andAbsx (addr : Word)  -- $3D AND a,X, R153
  | eorZpix (z : Byte)  -- $41 EOR (z,X), R155
  | eorZp (z : Byte)  -- $45 EOR z, R155
  | eorImm (v : Byte)  -- $49 EOR #i, R155
  | eorAbs (addr : Word)  -- $4D EOR a, R155
  | eorZpiy (z : Byte)  -- $51 EOR (z),Y, R155
  | eorZpi (z : Byte)  -- $52 EOR (z), R155
  | eorZpx (z : Byte)  -- $55 EOR z,X, R155
  | eorAbsy (addr : Word)  -- $59 EOR a,Y, R155
  | eorAbsx (addr : Word)  -- $5D EOR a,X, R155
  | adcZpix (z : Byte)  -- $61 ADC (z,X), R150
  | adcZp (z : Byte)  -- $65 ADC z, R150
  | adcImm (v : Byte)  -- $69 ADC #i, R150
  | adcAbs (addr : Word)  -- $6D ADC a, R150
  | adcZpiy (z : Byte)  -- $71 ADC (z),Y, R150
  | adcZpi (z : Byte)  -- $72 ADC (z), R150
  | adcZpx (z : Byte)  -- $75 ADC z,X, R150
  | adcAbsy (addr : Word)  -- $79 ADC a,Y, R150
  | adcAbsx (addr : Word)  -- $7D ADC a,X, R150
  | cpyImm (v : Byte)  -- $C0 CPY #i, R162
  | cmpZpix (z : Byte)  -- $C1 CMP (z,X), R160
  | cpyZp (z : Byte)  -- $C4 CPY z, R162
  | cmpZp (z : Byte)  -- $C5 CMP z, R160
  | cmpImm (v : Byte)  -- $C9 CMP #i, R160
  | cpyAbs (addr : Word)  -- $CC CPY a, R162
  | cmpAbs (addr : Word)  -- $CD CMP a, R160
  | cmpZpiy (z : Byte)  -- $D1 CMP (z),Y, R160
  | cmpZpi (z : Byte)  -- $D2 CMP (z), R160
  | cmpZpx (z : Byte)  -- $D5 CMP z,X, R160
  | cmpAbsy (addr : Word)  -- $D9 CMP a,Y, R160
  | cmpAbsx (addr : Word)  -- $DD CMP a,X, R160
  | cpxImm (v : Byte)  -- $E0 CPX #i, R161
  | sbcZpix (z : Byte)  -- $E1 SBC (z,X), R151
  | cpxZp (z : Byte)  -- $E4 CPX z, R161
  | sbcZp (z : Byte)  -- $E5 SBC z, R151
  | sbcImm (v : Byte)  -- $E9 SBC #i, R151
  | cpxAbs (addr : Word)  -- $EC CPX a, R161
  | sbcAbs (addr : Word)  -- $ED SBC a, R151
  | sbcZpiy (z : Byte)  -- $F1 SBC (z),Y, R151
  | sbcZpi (z : Byte)  -- $F2 SBC (z), R151
  | sbcZpx (z : Byte)  -- $F5 SBC z,X, R151
  | sbcAbsy (addr : Word)  -- $F9 SBC a,Y, R151
  | sbcAbsx (addr : Word)  -- $FD SBC a,X, R151
  -- 41_shift_bit.md: Shift, rotate, increment, bit test and bit modify
  | tsbZp (z : Byte)  -- $04 TSB z, R212
  | aslZp (z : Byte)  -- $06 ASL z, R200
  | rmb0 (z : Byte)  -- $07 RMB0 z, R215
  | aslAcc  -- $0A ASL A, R200
  | tsbAbs (addr : Word)  -- $0C TSB a, R212
  | aslAbs (addr : Word)  -- $0E ASL a, R200
  | trbZp (z : Byte)  -- $14 TRB z, R213
  | aslZpx (z : Byte)  -- $16 ASL z,X, R200
  | rmb1 (z : Byte)  -- $17 RMB1 z, R215
  | incAcc  -- $1A INC A, R204
  | trbAbs (addr : Word)  -- $1C TRB a, R213
  | aslAbsx (addr : Word)  -- $1E ASL a,X, R200
  | bitZp (z : Byte)  -- $24 BIT z, R210
  | rolZp (z : Byte)  -- $26 ROL z, R202
  | rmb2 (z : Byte)  -- $27 RMB2 z, R215
  | rolAcc  -- $2A ROL A, R202
  | bitAbs (addr : Word)  -- $2C BIT a, R210
  | rolAbs (addr : Word)  -- $2E ROL a, R202
  | bitZpx (z : Byte)  -- $34 BIT z,X, R210
  | rolZpx (z : Byte)  -- $36 ROL z,X, R202
  | rmb3 (z : Byte)  -- $37 RMB3 z, R215
  | decAcc  -- $3A DEC A, R205
  | bitAbsx (addr : Word)  -- $3C BIT a,X, R210
  | rolAbsx (addr : Word)  -- $3E ROL a,X, R202
  | lsrZp (z : Byte)  -- $46 LSR z, R201
  | rmb4 (z : Byte)  -- $47 RMB4 z, R215
  | lsrAcc  -- $4A LSR A, R201
  | lsrAbs (addr : Word)  -- $4E LSR a, R201
  | lsrZpx (z : Byte)  -- $56 LSR z,X, R201
  | rmb5 (z : Byte)  -- $57 RMB5 z, R215
  | lsrAbsx (addr : Word)  -- $5E LSR a,X, R201
  | rorZp (z : Byte)  -- $66 ROR z, R203
  | rmb6 (z : Byte)  -- $67 RMB6 z, R215
  | rorAcc  -- $6A ROR A, R203
  | rorAbs (addr : Word)  -- $6E ROR a, R203
  | rorZpx (z : Byte)  -- $76 ROR z,X, R203
  | rmb7 (z : Byte)  -- $77 RMB7 z, R215
  | rorAbsx (addr : Word)  -- $7E ROR a,X, R203
  | tstZp (v : Byte) (z : Byte)  -- $83 TST #i,z, R211
  | smb0 (z : Byte)  -- $87 SMB0 z, R216
  | dey  -- $88 DEY, R209
  | bitImm (v : Byte)  -- $89 BIT #i, R210
  | tstAbs (v : Byte) (addr : Word)  -- $93 TST #i,a, R211
  | smb1 (z : Byte)  -- $97 SMB1 z, R216
  | tstZpx (v : Byte) (z : Byte)  -- $A3 TST #i,z,X, R211
  | smb2 (z : Byte)  -- $A7 SMB2 z, R216
  | tstAbsx (v : Byte) (addr : Word)  -- $B3 TST #i,a,X, R211
  | smb3 (z : Byte)  -- $B7 SMB3 z, R216
  | decZp (z : Byte)  -- $C6 DEC z, R205
  | smb4 (z : Byte)  -- $C7 SMB4 z, R216
  | iny  -- $C8 INY, R207
  | dex  -- $CA DEX, R208
  | decAbs (addr : Word)  -- $CE DEC a, R205
  | decZpx (z : Byte)  -- $D6 DEC z,X, R205
  | smb5 (z : Byte)  -- $D7 SMB5 z, R216
  | decAbsx (addr : Word)  -- $DE DEC a,X, R205
  | incZp (z : Byte)  -- $E6 INC z, R204
  | smb6 (z : Byte)  -- $E7 SMB6 z, R216
  | inx  -- $E8 INX, R206
  | incAbs (addr : Word)  -- $EE INC a, R204
  | incZpx (z : Byte)  -- $F6 INC z,X, R204
  | smb7 (z : Byte)  -- $F7 SMB7 z, R216
  | incAbsx (addr : Word)  -- $FE INC a,X, R204
  -- 42_control.md: Branches, jumps, calls, returns, software interrupt
  | brk  -- $00 BRK, R268
  | bbr0 (z : Byte) (rel : Int)  -- $0F BBR0 z,r, R260
  | bpl (rel : Int)  -- $10 BPL r, R251
  | bbr1 (z : Byte) (rel : Int)  -- $1F BBR1 z,r, R260
  | jsr (addr : Word)  -- $20 JSR a, R266
  | bbr2 (z : Byte) (rel : Int)  -- $2F BBR2 z,r, R260
  | bmi (rel : Int)  -- $30 BMI r, R252
  | bbr3 (z : Byte) (rel : Int)  -- $3F BBR3 z,r, R260
  | rti  -- $40 RTI, R269
  | bsr (rel : Int)  -- $44 BSR r, R262
  | jmpAbs (addr : Word)  -- $4C JMP a, R263
  | bbr4 (z : Byte) (rel : Int)  -- $4F BBR4 z,r, R260
  | bvc (rel : Int)  -- $50 BVC r, R253
  | bbr5 (z : Byte) (rel : Int)  -- $5F BBR5 z,r, R260
  | rts  -- $60 RTS, R267
  | jmpInd (addr : Word)  -- $6C JMP (a), R264
  | bbr6 (z : Byte) (rel : Int)  -- $6F BBR6 z,r, R260
  | bvs (rel : Int)  -- $70 BVS r, R254
  | jmpIndx (addr : Word)  -- $7C JMP (a,X), R265
  | bbr7 (z : Byte) (rel : Int)  -- $7F BBR7 z,r, R260
  | bra (rel : Int)  -- $80 BRA r, R259
  | bbs0 (z : Byte) (rel : Int)  -- $8F BBS0 z,r, R261
  | bcc (rel : Int)  -- $90 BCC r, R255
  | bbs1 (z : Byte) (rel : Int)  -- $9F BBS1 z,r, R261
  | bbs2 (z : Byte) (rel : Int)  -- $AF BBS2 z,r, R261
  | bcs (rel : Int)  -- $B0 BCS r, R256
  | bbs3 (z : Byte) (rel : Int)  -- $BF BBS3 z,r, R261
  | bbs4 (z : Byte) (rel : Int)  -- $CF BBS4 z,r, R261
  | bne (rel : Int)  -- $D0 BNE r, R257
  | bbs5 (z : Byte) (rel : Int)  -- $DF BBS5 z,r, R261
  | bbs6 (z : Byte) (rel : Int)  -- $EF BBS6 z,r, R261
  | beq (rel : Int)  -- $F0 BEQ r, R258
  | bbs7 (z : Byte) (rel : Int)  -- $FF BBS7 z,r, R261
  -- 43_block_bank.md: Block transfers, bank-map transfers, video-port stores, clock speed
  | st0 (v : Byte)  -- $03 ST0 #i, R325
  | st1 (v : Byte)  -- $13 ST1 #i, R326
  | st2 (v : Byte)  -- $23 ST2 #i, R327
  | tma (v : Byte)  -- $43 TMA #i, R321
  | tam (v : Byte)  -- $53 TAM #i, R320
  | csl  -- $54 CSL, R330
  | tii (src : Word) (dst : Word) (len : Word)  -- $73 TII s,d,l, R301
  | tdd (src : Word) (dst : Word) (len : Word)  -- $C3 TDD s,d,l, R302
  | tin (src : Word) (dst : Word) (len : Word)  -- $D3 TIN s,d,l, R303
  | csh  -- $D4 CSH, R331
  | tia (src : Word) (dst : Word) (len : Word)  -- $E3 TIA s,d,l, R304
  | tai (src : Word) (dst : Word) (len : Word)  -- $F3 TAI s,d,l, R305
  -- 44_load_store_misc.md: Loads, stores, transfers, stack, flags, SET, NOP, undefined
  | sxy  -- $02 SXY, R356
  | php  -- $08 PHP, R363
  | undef0B  -- $0B undefined, R385
  | clc  -- $18 CLC, R370
  | undef1B  -- $1B undefined, R385
  | sax  -- $22 SAX, R357
  | plp  -- $28 PLP, R367
  | undef2B  -- $2B undefined, R385
  | undef33  -- $33 undefined, R385
  | sec  -- $38 SEC, R371
  | undef3B  -- $3B undefined, R385
  | say  -- $42 SAY, R358
  | pha  -- $48 PHA, R362
  | undef4B  -- $4B undefined, R385
  | cli  -- $58 CLI, R372
  | phy  -- $5A PHY, R365
  | undef5B  -- $5B undefined, R385
  | undef5C  -- $5C undefined, R385
  | cla  -- $62 CLA, R359
  | undef63  -- $63 undefined, R385
  | stzZp (z : Byte)  -- $64 STZ z, R348
  | pla  -- $68 PLA, R366
  | undef6B  -- $6B undefined, R385
  | stzZpx (z : Byte)  -- $74 STZ z,X, R348
  | sei  -- $78 SEI, R373
  | ply  -- $7A PLY, R369
  | undef7B  -- $7B undefined, R385
  | staZpix (z : Byte)  -- $81 STA (z,X), R345
  | clx  -- $82 CLX, R360
  | styZp (z : Byte)  -- $84 STY z, R347
  | staZp (z : Byte)  -- $85 STA z, R345
  | stxZp (z : Byte)  -- $86 STX z, R346
  | txa  -- $8A TXA, R351
  | undef8B  -- $8B undefined, R385
  | styAbs (addr : Word)  -- $8C STY a, R347
  | staAbs (addr : Word)  -- $8D STA a, R345
  | stxAbs (addr : Word)  -- $8E STX a, R346
  | staZpiy (z : Byte)  -- $91 STA (z),Y, R345
  | staZpi (z : Byte)  -- $92 STA (z), R345
  | styZpx (z : Byte)  -- $94 STY z,X, R347
  | staZpx (z : Byte)  -- $95 STA z,X, R345
  | stxZpy (z : Byte)  -- $96 STX z,Y, R346
  | tya  -- $98 TYA, R353
  | staAbsy (addr : Word)  -- $99 STA a,Y, R345
  | txs  -- $9A TXS, R355
  | undef9B  -- $9B undefined, R385
  | stzAbs (addr : Word)  -- $9C STZ a, R348
  | staAbsx (addr : Word)  -- $9D STA a,X, R345
  | stzAbsx (addr : Word)  -- $9E STZ a,X, R348
  | ldyImm (v : Byte)  -- $A0 LDY #i, R342
  | ldaZpix (z : Byte)  -- $A1 LDA (z,X), R340
  | ldxImm (v : Byte)  -- $A2 LDX #i, R341
  | ldyZp (z : Byte)  -- $A4 LDY z, R342
  | ldaZp (z : Byte)  -- $A5 LDA z, R340
  | ldxZp (z : Byte)  -- $A6 LDX z, R341
  | tay  -- $A8 TAY, R352
  | ldaImm (v : Byte)  -- $A9 LDA #i, R340
  | tax  -- $AA TAX, R350
  | undefAB  -- $AB undefined, R385
  | ldyAbs (addr : Word)  -- $AC LDY a, R342
  | ldaAbs (addr : Word)  -- $AD LDA a, R340
  | ldxAbs (addr : Word)  -- $AE LDX a, R341
  | ldaZpiy (z : Byte)  -- $B1 LDA (z),Y, R340
  | ldaZpi (z : Byte)  -- $B2 LDA (z), R340
  | ldyZpx (z : Byte)  -- $B4 LDY z,X, R342
  | ldaZpx (z : Byte)  -- $B5 LDA z,X, R340
  | ldxZpy (z : Byte)  -- $B6 LDX z,Y, R341
  | clv  -- $B8 CLV, R376
  | ldaAbsy (addr : Word)  -- $B9 LDA a,Y, R340
  | tsx  -- $BA TSX, R354
  | undefBB  -- $BB undefined, R385
  | ldyAbsx (addr : Word)  -- $BC LDY a,X, R342
  | ldaAbsx (addr : Word)  -- $BD LDA a,X, R340
  | ldxAbsy (addr : Word)  -- $BE LDX a,Y, R341
  | cly  -- $C2 CLY, R361
  | undefCB  -- $CB undefined, R385
  | cld  -- $D8 CLD, R374
  | phx  -- $DA PHX, R364
  | undefDB  -- $DB undefined, R385
  | undefDC  -- $DC undefined, R385
  | undefE2  -- $E2 undefined, R385
  | nop  -- $EA NOP, R381
  | undefEB  -- $EB undefined, R385
  | set  -- $F4 SET, R380
  | sed  -- $F8 SED, R375
  | plx  -- $FA PLX, R368
  | undefFB  -- $FB undefined, R385
  | undefFC  -- $FC undefined, R385
  deriving DecidableEq, Repr

end Sys2Proof
end

