-- ==== Sys2Proof/WellFormed.lean ====
section
/-! DEFINITION. Which instruction terms stand for an encoding (30_encoding.md R112, R145): every operand is a byte or a
word by its type, except a displacement, which must be a signed 8-bit value. -/

namespace Sys2Proof

/-- A displacement that fits the signed byte `rel8` (R112, R132: -128..+127). -/
def relFits (rel : Int) : Bool := decide (-128 ≤ rel) && decide (rel ≤ 127)

/-- The instruction has an encoding. One arm a constructor. -/
def Instr.wellFormed : Instr → Bool
  | .oraZpix _ => true
  | .oraZp _ => true
  | .oraImm _ => true
  | .oraAbs _ => true
  | .oraZpiy _ => true
  | .oraZpi _ => true
  | .oraZpx _ => true
  | .oraAbsy _ => true
  | .oraAbsx _ => true
  | .andZpix _ => true
  | .andZp _ => true
  | .andImm _ => true
  | .andAbs _ => true
  | .andZpiy _ => true
  | .andZpi _ => true
  | .andZpx _ => true
  | .andAbsy _ => true
  | .andAbsx _ => true
  | .eorZpix _ => true
  | .eorZp _ => true
  | .eorImm _ => true
  | .eorAbs _ => true
  | .eorZpiy _ => true
  | .eorZpi _ => true
  | .eorZpx _ => true
  | .eorAbsy _ => true
  | .eorAbsx _ => true
  | .adcZpix _ => true
  | .adcZp _ => true
  | .adcImm _ => true
  | .adcAbs _ => true
  | .adcZpiy _ => true
  | .adcZpi _ => true
  | .adcZpx _ => true
  | .adcAbsy _ => true
  | .adcAbsx _ => true
  | .cpyImm _ => true
  | .cmpZpix _ => true
  | .cpyZp _ => true
  | .cmpZp _ => true
  | .cmpImm _ => true
  | .cpyAbs _ => true
  | .cmpAbs _ => true
  | .cmpZpiy _ => true
  | .cmpZpi _ => true
  | .cmpZpx _ => true
  | .cmpAbsy _ => true
  | .cmpAbsx _ => true
  | .cpxImm _ => true
  | .sbcZpix _ => true
  | .cpxZp _ => true
  | .sbcZp _ => true
  | .sbcImm _ => true
  | .cpxAbs _ => true
  | .sbcAbs _ => true
  | .sbcZpiy _ => true
  | .sbcZpi _ => true
  | .sbcZpx _ => true
  | .sbcAbsy _ => true
  | .sbcAbsx _ => true
  | .tsbZp _ => true
  | .aslZp _ => true
  | .rmb0 _ => true
  | .aslAcc => true
  | .tsbAbs _ => true
  | .aslAbs _ => true
  | .trbZp _ => true
  | .aslZpx _ => true
  | .rmb1 _ => true
  | .incAcc => true
  | .trbAbs _ => true
  | .aslAbsx _ => true
  | .bitZp _ => true
  | .rolZp _ => true
  | .rmb2 _ => true
  | .rolAcc => true
  | .bitAbs _ => true
  | .rolAbs _ => true
  | .bitZpx _ => true
  | .rolZpx _ => true
  | .rmb3 _ => true
  | .decAcc => true
  | .bitAbsx _ => true
  | .rolAbsx _ => true
  | .lsrZp _ => true
  | .rmb4 _ => true
  | .lsrAcc => true
  | .lsrAbs _ => true
  | .lsrZpx _ => true
  | .rmb5 _ => true
  | .lsrAbsx _ => true
  | .rorZp _ => true
  | .rmb6 _ => true
  | .rorAcc => true
  | .rorAbs _ => true
  | .rorZpx _ => true
  | .rmb7 _ => true
  | .rorAbsx _ => true
  | .tstZp _ _ => true
  | .smb0 _ => true
  | .dey => true
  | .bitImm _ => true
  | .tstAbs _ _ => true
  | .smb1 _ => true
  | .tstZpx _ _ => true
  | .smb2 _ => true
  | .tstAbsx _ _ => true
  | .smb3 _ => true
  | .decZp _ => true
  | .smb4 _ => true
  | .iny => true
  | .dex => true
  | .decAbs _ => true
  | .decZpx _ => true
  | .smb5 _ => true
  | .decAbsx _ => true
  | .incZp _ => true
  | .smb6 _ => true
  | .inx => true
  | .incAbs _ => true
  | .incZpx _ => true
  | .smb7 _ => true
  | .incAbsx _ => true
  | .brk => true
  | .bbr0 _ rel => relFits rel
  | .bpl rel => relFits rel
  | .bbr1 _ rel => relFits rel
  | .jsr _ => true
  | .bbr2 _ rel => relFits rel
  | .bmi rel => relFits rel
  | .bbr3 _ rel => relFits rel
  | .rti => true
  | .bsr rel => relFits rel
  | .jmpAbs _ => true
  | .bbr4 _ rel => relFits rel
  | .bvc rel => relFits rel
  | .bbr5 _ rel => relFits rel
  | .rts => true
  | .jmpInd _ => true
  | .bbr6 _ rel => relFits rel
  | .bvs rel => relFits rel
  | .jmpIndx _ => true
  | .bbr7 _ rel => relFits rel
  | .bra rel => relFits rel
  | .bbs0 _ rel => relFits rel
  | .bcc rel => relFits rel
  | .bbs1 _ rel => relFits rel
  | .bbs2 _ rel => relFits rel
  | .bcs rel => relFits rel
  | .bbs3 _ rel => relFits rel
  | .bbs4 _ rel => relFits rel
  | .bne rel => relFits rel
  | .bbs5 _ rel => relFits rel
  | .bbs6 _ rel => relFits rel
  | .beq rel => relFits rel
  | .bbs7 _ rel => relFits rel
  | .st0 _ => true
  | .st1 _ => true
  | .st2 _ => true
  | .tma _ => true
  | .tam _ => true
  | .csl => true
  | .tii _ _ _ => true
  | .tdd _ _ _ => true
  | .tin _ _ _ => true
  | .csh => true
  | .tia _ _ _ => true
  | .tai _ _ _ => true
  | .sxy => true
  | .php => true
  | .undef0B => true
  | .clc => true
  | .undef1B => true
  | .sax => true
  | .plp => true
  | .undef2B => true
  | .undef33 => true
  | .sec => true
  | .undef3B => true
  | .say => true
  | .pha => true
  | .undef4B => true
  | .cli => true
  | .phy => true
  | .undef5B => true
  | .undef5C => true
  | .cla => true
  | .undef63 => true
  | .stzZp _ => true
  | .pla => true
  | .undef6B => true
  | .stzZpx _ => true
  | .sei => true
  | .ply => true
  | .undef7B => true
  | .staZpix _ => true
  | .clx => true
  | .styZp _ => true
  | .staZp _ => true
  | .stxZp _ => true
  | .txa => true
  | .undef8B => true
  | .styAbs _ => true
  | .staAbs _ => true
  | .stxAbs _ => true
  | .staZpiy _ => true
  | .staZpi _ => true
  | .styZpx _ => true
  | .staZpx _ => true
  | .stxZpy _ => true
  | .tya => true
  | .staAbsy _ => true
  | .txs => true
  | .undef9B => true
  | .stzAbs _ => true
  | .staAbsx _ => true
  | .stzAbsx _ => true
  | .ldyImm _ => true
  | .ldaZpix _ => true
  | .ldxImm _ => true
  | .ldyZp _ => true
  | .ldaZp _ => true
  | .ldxZp _ => true
  | .tay => true
  | .ldaImm _ => true
  | .tax => true
  | .undefAB => true
  | .ldyAbs _ => true
  | .ldaAbs _ => true
  | .ldxAbs _ => true
  | .ldaZpiy _ => true
  | .ldaZpi _ => true
  | .ldyZpx _ => true
  | .ldaZpx _ => true
  | .ldxZpy _ => true
  | .clv => true
  | .ldaAbsy _ => true
  | .tsx => true
  | .undefBB => true
  | .ldyAbsx _ => true
  | .ldaAbsx _ => true
  | .ldxAbsy _ => true
  | .cly => true
  | .undefCB => true
  | .cld => true
  | .phx => true
  | .undefDB => true
  | .undefDC => true
  | .undefE2 => true
  | .nop => true
  | .undefEB => true
  | .set => true
  | .sed => true
  | .plx => true
  | .undefFB => true
  | .undefFC => true

end Sys2Proof
end

