-- ==== Sys2Proof/Decode.lean ====
section
/-! DEFINITION. The decoder (30_encoding.md R110 to R116, R140, R141), total on any bytes, then the encoder written from
the same tables (R111, R112), then the decoder on the host's table words. -/

namespace Sys2Proof

/-- An operand shape (R111, R112) with the instruction its operands make. -/
inductive Form where
  | imp (i : Instr)                           -- 1 byte: IMP, ACC
  | byte (f : Byte → Instr)                   -- 2 bytes: IMM, ZP, ZPX, ZPY, ZPI, ZPIX, ZPIY
  | rel (f : Int → Instr)                     -- 2 bytes: REL
  | word (f : Word → Instr)                   -- 3 bytes: ABS, ABSX, ABSY, ABSI, ABSIX
  | zpRel (f : Byte → Int → Instr)            -- 3 bytes: ZPREL
  | immByte (f : Byte → Byte → Instr)         -- 3 bytes: IMMZP, IMMZPX
  | immWord (f : Byte → Word → Instr)         -- 4 bytes: IMMABS, IMMABSX
  | block (f : Word → Word → Word → Instr)    -- 7 bytes: BLK

/-- Instruction length in bytes, opcode included (R111, R114). -/
def Form.length : Form → Nat
  | .imp _ => 1
  | .byte _ => 2
  | .rel _ => 2
  | .word _ => 3
  | .zpRel _ => 3
  | .immByte _ => 3
  | .immWord _ => 4
  | .block _ => 7

/-! The opcode map of R113, one list a row of it: row `h`, entry `l` is opcode byte `16 * h + l`. -/

/-- Opcodes $00 to $0F. -/
def opcodeRow0 : List Form :=
  [ .imp .brk, .byte .oraZpix, .imp .sxy, .byte .st0,
    .byte .tsbZp, .byte .oraZp, .byte .aslZp, .byte .rmb0,
    .imp .php, .byte .oraImm, .imp .aslAcc, .imp .undef0B,
    .word .tsbAbs, .word .oraAbs, .word .aslAbs, .zpRel .bbr0 ]

/-- Opcodes $10 to $1F. -/
def opcodeRow1 : List Form :=
  [ .rel .bpl, .byte .oraZpiy, .byte .oraZpi, .byte .st1,
    .byte .trbZp, .byte .oraZpx, .byte .aslZpx, .byte .rmb1,
    .imp .clc, .word .oraAbsy, .imp .incAcc, .imp .undef1B,
    .word .trbAbs, .word .oraAbsx, .word .aslAbsx, .zpRel .bbr1 ]

/-- Opcodes $20 to $2F. -/
def opcodeRow2 : List Form :=
  [ .word .jsr, .byte .andZpix, .imp .sax, .byte .st2,
    .byte .bitZp, .byte .andZp, .byte .rolZp, .byte .rmb2,
    .imp .plp, .byte .andImm, .imp .rolAcc, .imp .undef2B,
    .word .bitAbs, .word .andAbs, .word .rolAbs, .zpRel .bbr2 ]

/-- Opcodes $30 to $3F. -/
def opcodeRow3 : List Form :=
  [ .rel .bmi, .byte .andZpiy, .byte .andZpi, .imp .undef33,
    .byte .bitZpx, .byte .andZpx, .byte .rolZpx, .byte .rmb3,
    .imp .sec, .word .andAbsy, .imp .decAcc, .imp .undef3B,
    .word .bitAbsx, .word .andAbsx, .word .rolAbsx, .zpRel .bbr3 ]

/-- Opcodes $40 to $4F. -/
def opcodeRow4 : List Form :=
  [ .imp .rti, .byte .eorZpix, .imp .say, .byte .tma,
    .rel .bsr, .byte .eorZp, .byte .lsrZp, .byte .rmb4,
    .imp .pha, .byte .eorImm, .imp .lsrAcc, .imp .undef4B,
    .word .jmpAbs, .word .eorAbs, .word .lsrAbs, .zpRel .bbr4 ]

/-- Opcodes $50 to $5F. -/
def opcodeRow5 : List Form :=
  [ .rel .bvc, .byte .eorZpiy, .byte .eorZpi, .byte .tam,
    .imp .csl, .byte .eorZpx, .byte .lsrZpx, .byte .rmb5,
    .imp .cli, .word .eorAbsy, .imp .phy, .imp .undef5B,
    .imp .undef5C, .word .eorAbsx, .word .lsrAbsx, .zpRel .bbr5 ]

/-- Opcodes $60 to $6F. -/
def opcodeRow6 : List Form :=
  [ .imp .rts, .byte .adcZpix, .imp .cla, .imp .undef63,
    .byte .stzZp, .byte .adcZp, .byte .rorZp, .byte .rmb6,
    .imp .pla, .byte .adcImm, .imp .rorAcc, .imp .undef6B,
    .word .jmpInd, .word .adcAbs, .word .rorAbs, .zpRel .bbr6 ]

/-- Opcodes $70 to $7F. -/
def opcodeRow7 : List Form :=
  [ .rel .bvs, .byte .adcZpiy, .byte .adcZpi, .block .tii,
    .byte .stzZpx, .byte .adcZpx, .byte .rorZpx, .byte .rmb7,
    .imp .sei, .word .adcAbsy, .imp .ply, .imp .undef7B,
    .word .jmpIndx, .word .adcAbsx, .word .rorAbsx, .zpRel .bbr7 ]

/-- Opcodes $80 to $8F. -/
def opcodeRow8 : List Form :=
  [ .rel .bra, .byte .staZpix, .imp .clx, .immByte .tstZp,
    .byte .styZp, .byte .staZp, .byte .stxZp, .byte .smb0,
    .imp .dey, .byte .bitImm, .imp .txa, .imp .undef8B,
    .word .styAbs, .word .staAbs, .word .stxAbs, .zpRel .bbs0 ]

/-- Opcodes $90 to $9F. -/
def opcodeRow9 : List Form :=
  [ .rel .bcc, .byte .staZpiy, .byte .staZpi, .immWord .tstAbs,
    .byte .styZpx, .byte .staZpx, .byte .stxZpy, .byte .smb1,
    .imp .tya, .word .staAbsy, .imp .txs, .imp .undef9B,
    .word .stzAbs, .word .staAbsx, .word .stzAbsx, .zpRel .bbs1 ]

/-- Opcodes $A0 to $AF. -/
def opcodeRowA : List Form :=
  [ .byte .ldyImm, .byte .ldaZpix, .byte .ldxImm, .immByte .tstZpx,
    .byte .ldyZp, .byte .ldaZp, .byte .ldxZp, .byte .smb2,
    .imp .tay, .byte .ldaImm, .imp .tax, .imp .undefAB,
    .word .ldyAbs, .word .ldaAbs, .word .ldxAbs, .zpRel .bbs2 ]

/-- Opcodes $B0 to $BF. -/
def opcodeRowB : List Form :=
  [ .rel .bcs, .byte .ldaZpiy, .byte .ldaZpi, .immWord .tstAbsx,
    .byte .ldyZpx, .byte .ldaZpx, .byte .ldxZpy, .byte .smb3,
    .imp .clv, .word .ldaAbsy, .imp .tsx, .imp .undefBB,
    .word .ldyAbsx, .word .ldaAbsx, .word .ldxAbsy, .zpRel .bbs3 ]

/-- Opcodes $C0 to $CF. -/
def opcodeRowC : List Form :=
  [ .byte .cpyImm, .byte .cmpZpix, .imp .cly, .block .tdd,
    .byte .cpyZp, .byte .cmpZp, .byte .decZp, .byte .smb4,
    .imp .iny, .byte .cmpImm, .imp .dex, .imp .undefCB,
    .word .cpyAbs, .word .cmpAbs, .word .decAbs, .zpRel .bbs4 ]

/-- Opcodes $D0 to $DF. -/
def opcodeRowD : List Form :=
  [ .rel .bne, .byte .cmpZpiy, .byte .cmpZpi, .block .tin,
    .imp .csh, .byte .cmpZpx, .byte .decZpx, .byte .smb5,
    .imp .cld, .word .cmpAbsy, .imp .phx, .imp .undefDB,
    .imp .undefDC, .word .cmpAbsx, .word .decAbsx, .zpRel .bbs5 ]

/-- Opcodes $E0 to $EF. -/
def opcodeRowE : List Form :=
  [ .byte .cpxImm, .byte .sbcZpix, .imp .undefE2, .block .tia,
    .byte .cpxZp, .byte .sbcZp, .byte .incZp, .byte .smb6,
    .imp .inx, .byte .sbcImm, .imp .nop, .imp .undefEB,
    .word .cpxAbs, .word .sbcAbs, .word .incAbs, .zpRel .bbs6 ]

/-- Opcodes $F0 to $FF. -/
def opcodeRowF : List Form :=
  [ .rel .beq, .byte .sbcZpiy, .byte .sbcZpi, .block .tai,
    .imp .set, .byte .sbcZpx, .byte .incZpx, .byte .smb7,
    .imp .sed, .word .sbcAbsy, .imp .plx, .imp .undefFB,
    .imp .undefFC, .word .sbcAbsx, .word .incAbsx, .zpRel .bbs7 ]

/-- The opcode map (R113). -/
def opcodeMap : List (List Form) :=
  [ opcodeRow0, opcodeRow1, opcodeRow2, opcodeRow3, opcodeRow4, opcodeRow5, opcodeRow6, opcodeRow7 ] ++
  [ opcodeRow8, opcodeRow9, opcodeRowA, opcodeRowB, opcodeRowC, opcodeRowD, opcodeRowE, opcodeRowF ]

/-- The map's entry for an opcode byte. Every row has 16 entries (`Laws.opcodeMap_full`), so the defaults are never
taken. -/
def formOf (op : Byte) : Form :=
  (opcodeMap.getD (op.toNat / 16) []).getD (op.toNat % 16) (.imp .undef0B)

/-- Why bytes do not decode. -/
inductive DecodeError where
  /-- no opcode byte -/
  | noBytes
  /-- fewer bytes than the opcode's length (R114) -/
  | truncated (opcode : Byte)
  deriving DecidableEq, Repr

/-- The operands assembled from the bytes after the opcode (R112): 16-bit operands little-endian, displacements as
signed bytes. -/
def Form.parse (op : Byte) : Form → List Byte → Except DecodeError (Instr × List Byte)
  | .imp i, r => .ok (i, r)
  | .byte f, b :: r => .ok (f b, r)
  | .rel f, b :: r => .ok (f b.toInt, r)
  | .word f, lo :: hi :: r => .ok (f (mkWord hi lo), r)
  | .zpRel f, z :: b :: r => .ok (f z b.toInt, r)
  | .immByte f, v :: z :: r => .ok (f v z, r)
  | .immWord f, v :: lo :: hi :: r => .ok (f v (mkWord hi lo), r)
  | .block f, sl :: sh :: dl :: dh :: ll :: lh :: r => .ok (f (mkWord sh sl) (mkWord dh dl) (mkWord lh ll), r)
  | _, _ => .error (.truncated op)

/-- The decoder: the instruction at the head of the bytes, and the bytes after it. -/
def decode : List Byte → Except DecodeError (Instr × List Byte)
  | [] => .error .noBytes
  | op :: r => (formOf op).parse op r

/-- The length of the instruction an opcode byte begins (R114: by the opcode byte alone). -/
def instrLength (op : Byte) : Nat := (formOf op).length

/-- A 16-bit operand's bytes, low byte first (R84). -/
def wordBytes (w : Word) : List Byte := [loByte w, hiByte w]

/-- A displacement's byte (R112). -/
def relByte (rel : Int) : Byte := BitVec.ofInt 8 rel

/-- The encoder: the bytes of a well-formed instruction (R111 to R113). -/
def encode : Instr → List Byte
  | .oraZpix z => [0x01, z]
  | .oraZp z => [0x05, z]
  | .oraImm v => [0x09, v]
  | .oraAbs addr => 0x0D :: wordBytes addr
  | .oraZpiy z => [0x11, z]
  | .oraZpi z => [0x12, z]
  | .oraZpx z => [0x15, z]
  | .oraAbsy addr => 0x19 :: wordBytes addr
  | .oraAbsx addr => 0x1D :: wordBytes addr
  | .andZpix z => [0x21, z]
  | .andZp z => [0x25, z]
  | .andImm v => [0x29, v]
  | .andAbs addr => 0x2D :: wordBytes addr
  | .andZpiy z => [0x31, z]
  | .andZpi z => [0x32, z]
  | .andZpx z => [0x35, z]
  | .andAbsy addr => 0x39 :: wordBytes addr
  | .andAbsx addr => 0x3D :: wordBytes addr
  | .eorZpix z => [0x41, z]
  | .eorZp z => [0x45, z]
  | .eorImm v => [0x49, v]
  | .eorAbs addr => 0x4D :: wordBytes addr
  | .eorZpiy z => [0x51, z]
  | .eorZpi z => [0x52, z]
  | .eorZpx z => [0x55, z]
  | .eorAbsy addr => 0x59 :: wordBytes addr
  | .eorAbsx addr => 0x5D :: wordBytes addr
  | .adcZpix z => [0x61, z]
  | .adcZp z => [0x65, z]
  | .adcImm v => [0x69, v]
  | .adcAbs addr => 0x6D :: wordBytes addr
  | .adcZpiy z => [0x71, z]
  | .adcZpi z => [0x72, z]
  | .adcZpx z => [0x75, z]
  | .adcAbsy addr => 0x79 :: wordBytes addr
  | .adcAbsx addr => 0x7D :: wordBytes addr
  | .cpyImm v => [0xC0, v]
  | .cmpZpix z => [0xC1, z]
  | .cpyZp z => [0xC4, z]
  | .cmpZp z => [0xC5, z]
  | .cmpImm v => [0xC9, v]
  | .cpyAbs addr => 0xCC :: wordBytes addr
  | .cmpAbs addr => 0xCD :: wordBytes addr
  | .cmpZpiy z => [0xD1, z]
  | .cmpZpi z => [0xD2, z]
  | .cmpZpx z => [0xD5, z]
  | .cmpAbsy addr => 0xD9 :: wordBytes addr
  | .cmpAbsx addr => 0xDD :: wordBytes addr
  | .cpxImm v => [0xE0, v]
  | .sbcZpix z => [0xE1, z]
  | .cpxZp z => [0xE4, z]
  | .sbcZp z => [0xE5, z]
  | .sbcImm v => [0xE9, v]
  | .cpxAbs addr => 0xEC :: wordBytes addr
  | .sbcAbs addr => 0xED :: wordBytes addr
  | .sbcZpiy z => [0xF1, z]
  | .sbcZpi z => [0xF2, z]
  | .sbcZpx z => [0xF5, z]
  | .sbcAbsy addr => 0xF9 :: wordBytes addr
  | .sbcAbsx addr => 0xFD :: wordBytes addr
  | .tsbZp z => [0x04, z]
  | .aslZp z => [0x06, z]
  | .rmb0 z => [0x07, z]
  | .aslAcc => [0x0A]
  | .tsbAbs addr => 0x0C :: wordBytes addr
  | .aslAbs addr => 0x0E :: wordBytes addr
  | .trbZp z => [0x14, z]
  | .aslZpx z => [0x16, z]
  | .rmb1 z => [0x17, z]
  | .incAcc => [0x1A]
  | .trbAbs addr => 0x1C :: wordBytes addr
  | .aslAbsx addr => 0x1E :: wordBytes addr
  | .bitZp z => [0x24, z]
  | .rolZp z => [0x26, z]
  | .rmb2 z => [0x27, z]
  | .rolAcc => [0x2A]
  | .bitAbs addr => 0x2C :: wordBytes addr
  | .rolAbs addr => 0x2E :: wordBytes addr
  | .bitZpx z => [0x34, z]
  | .rolZpx z => [0x36, z]
  | .rmb3 z => [0x37, z]
  | .decAcc => [0x3A]
  | .bitAbsx addr => 0x3C :: wordBytes addr
  | .rolAbsx addr => 0x3E :: wordBytes addr
  | .lsrZp z => [0x46, z]
  | .rmb4 z => [0x47, z]
  | .lsrAcc => [0x4A]
  | .lsrAbs addr => 0x4E :: wordBytes addr
  | .lsrZpx z => [0x56, z]
  | .rmb5 z => [0x57, z]
  | .lsrAbsx addr => 0x5E :: wordBytes addr
  | .rorZp z => [0x66, z]
  | .rmb6 z => [0x67, z]
  | .rorAcc => [0x6A]
  | .rorAbs addr => 0x6E :: wordBytes addr
  | .rorZpx z => [0x76, z]
  | .rmb7 z => [0x77, z]
  | .rorAbsx addr => 0x7E :: wordBytes addr
  | .tstZp v z => [0x83, v, z]
  | .smb0 z => [0x87, z]
  | .dey => [0x88]
  | .bitImm v => [0x89, v]
  | .tstAbs v addr => 0x93 :: v :: wordBytes addr
  | .smb1 z => [0x97, z]
  | .tstZpx v z => [0xA3, v, z]
  | .smb2 z => [0xA7, z]
  | .tstAbsx v addr => 0xB3 :: v :: wordBytes addr
  | .smb3 z => [0xB7, z]
  | .decZp z => [0xC6, z]
  | .smb4 z => [0xC7, z]
  | .iny => [0xC8]
  | .dex => [0xCA]
  | .decAbs addr => 0xCE :: wordBytes addr
  | .decZpx z => [0xD6, z]
  | .smb5 z => [0xD7, z]
  | .decAbsx addr => 0xDE :: wordBytes addr
  | .incZp z => [0xE6, z]
  | .smb6 z => [0xE7, z]
  | .inx => [0xE8]
  | .incAbs addr => 0xEE :: wordBytes addr
  | .incZpx z => [0xF6, z]
  | .smb7 z => [0xF7, z]
  | .incAbsx addr => 0xFE :: wordBytes addr
  | .brk => [0x00]
  | .bbr0 z rel => [0x0F, z, relByte rel]
  | .bpl rel => [0x10, relByte rel]
  | .bbr1 z rel => [0x1F, z, relByte rel]
  | .jsr addr => 0x20 :: wordBytes addr
  | .bbr2 z rel => [0x2F, z, relByte rel]
  | .bmi rel => [0x30, relByte rel]
  | .bbr3 z rel => [0x3F, z, relByte rel]
  | .rti => [0x40]
  | .bsr rel => [0x44, relByte rel]
  | .jmpAbs addr => 0x4C :: wordBytes addr
  | .bbr4 z rel => [0x4F, z, relByte rel]
  | .bvc rel => [0x50, relByte rel]
  | .bbr5 z rel => [0x5F, z, relByte rel]
  | .rts => [0x60]
  | .jmpInd addr => 0x6C :: wordBytes addr
  | .bbr6 z rel => [0x6F, z, relByte rel]
  | .bvs rel => [0x70, relByte rel]
  | .jmpIndx addr => 0x7C :: wordBytes addr
  | .bbr7 z rel => [0x7F, z, relByte rel]
  | .bra rel => [0x80, relByte rel]
  | .bbs0 z rel => [0x8F, z, relByte rel]
  | .bcc rel => [0x90, relByte rel]
  | .bbs1 z rel => [0x9F, z, relByte rel]
  | .bbs2 z rel => [0xAF, z, relByte rel]
  | .bcs rel => [0xB0, relByte rel]
  | .bbs3 z rel => [0xBF, z, relByte rel]
  | .bbs4 z rel => [0xCF, z, relByte rel]
  | .bne rel => [0xD0, relByte rel]
  | .bbs5 z rel => [0xDF, z, relByte rel]
  | .bbs6 z rel => [0xEF, z, relByte rel]
  | .beq rel => [0xF0, relByte rel]
  | .bbs7 z rel => [0xFF, z, relByte rel]
  | .st0 v => [0x03, v]
  | .st1 v => [0x13, v]
  | .st2 v => [0x23, v]
  | .tma v => [0x43, v]
  | .tam v => [0x53, v]
  | .csl => [0x54]
  | .tii src dst len => 0x73 :: (wordBytes src ++ wordBytes dst ++ wordBytes len)
  | .tdd src dst len => 0xC3 :: (wordBytes src ++ wordBytes dst ++ wordBytes len)
  | .tin src dst len => 0xD3 :: (wordBytes src ++ wordBytes dst ++ wordBytes len)
  | .csh => [0xD4]
  | .tia src dst len => 0xE3 :: (wordBytes src ++ wordBytes dst ++ wordBytes len)
  | .tai src dst len => 0xF3 :: (wordBytes src ++ wordBytes dst ++ wordBytes len)
  | .sxy => [0x02]
  | .php => [0x08]
  | .undef0B => [0x0B]
  | .clc => [0x18]
  | .undef1B => [0x1B]
  | .sax => [0x22]
  | .plp => [0x28]
  | .undef2B => [0x2B]
  | .undef33 => [0x33]
  | .sec => [0x38]
  | .undef3B => [0x3B]
  | .say => [0x42]
  | .pha => [0x48]
  | .undef4B => [0x4B]
  | .cli => [0x58]
  | .phy => [0x5A]
  | .undef5B => [0x5B]
  | .undef5C => [0x5C]
  | .cla => [0x62]
  | .undef63 => [0x63]
  | .stzZp z => [0x64, z]
  | .pla => [0x68]
  | .undef6B => [0x6B]
  | .stzZpx z => [0x74, z]
  | .sei => [0x78]
  | .ply => [0x7A]
  | .undef7B => [0x7B]
  | .staZpix z => [0x81, z]
  | .clx => [0x82]
  | .styZp z => [0x84, z]
  | .staZp z => [0x85, z]
  | .stxZp z => [0x86, z]
  | .txa => [0x8A]
  | .undef8B => [0x8B]
  | .styAbs addr => 0x8C :: wordBytes addr
  | .staAbs addr => 0x8D :: wordBytes addr
  | .stxAbs addr => 0x8E :: wordBytes addr
  | .staZpiy z => [0x91, z]
  | .staZpi z => [0x92, z]
  | .styZpx z => [0x94, z]
  | .staZpx z => [0x95, z]
  | .stxZpy z => [0x96, z]
  | .tya => [0x98]
  | .staAbsy addr => 0x99 :: wordBytes addr
  | .txs => [0x9A]
  | .undef9B => [0x9B]
  | .stzAbs addr => 0x9C :: wordBytes addr
  | .staAbsx addr => 0x9D :: wordBytes addr
  | .stzAbsx addr => 0x9E :: wordBytes addr
  | .ldyImm v => [0xA0, v]
  | .ldaZpix z => [0xA1, z]
  | .ldxImm v => [0xA2, v]
  | .ldyZp z => [0xA4, z]
  | .ldaZp z => [0xA5, z]
  | .ldxZp z => [0xA6, z]
  | .tay => [0xA8]
  | .ldaImm v => [0xA9, v]
  | .tax => [0xAA]
  | .undefAB => [0xAB]
  | .ldyAbs addr => 0xAC :: wordBytes addr
  | .ldaAbs addr => 0xAD :: wordBytes addr
  | .ldxAbs addr => 0xAE :: wordBytes addr
  | .ldaZpiy z => [0xB1, z]
  | .ldaZpi z => [0xB2, z]
  | .ldyZpx z => [0xB4, z]
  | .ldaZpx z => [0xB5, z]
  | .ldxZpy z => [0xB6, z]
  | .clv => [0xB8]
  | .ldaAbsy addr => 0xB9 :: wordBytes addr
  | .tsx => [0xBA]
  | .undefBB => [0xBB]
  | .ldyAbsx addr => 0xBC :: wordBytes addr
  | .ldaAbsx addr => 0xBD :: wordBytes addr
  | .ldxAbsy addr => 0xBE :: wordBytes addr
  | .cly => [0xC2]
  | .undefCB => [0xCB]
  | .cld => [0xD8]
  | .phx => [0xDA]
  | .undefDB => [0xDB]
  | .undefDC => [0xDC]
  | .undefE2 => [0xE2]
  | .nop => [0xEA]
  | .undefEB => [0xEB]
  | .set => [0xF4]
  | .sed => [0xF8]
  | .plx => [0xFA]
  | .undefFB => [0xFB]
  | .undefFC => [0xFC]

/-- The longest instruction, in bytes (R110). -/
def longest : Nat := 7

/-- A table word's bytes as memory holds them: byte `k` is bits `8k+7 .. 8k`, the bits above `nbits` zero, up to the
longest instruction. -/
def tableBytes (nbits w : Nat) : List Byte :=
  (List.range longest).map fun k => BitVec.ofNat 8 ((w % 2 ^ nbits) / 256 ^ k)

/-- The instruction the decoder reads from an instruction whose bits are `w`, numbered as spec/opcode_table.json
numbers them. -/
def decodeTableWord (nbits w : Nat) : Option Instr :=
  match decode (tableBytes nbits w) with
  | .ok (i, _) => some i
  | .error _ => none

end Sys2Proof
end

