-- ==== Sys2Proof/Config.lean ====
section
/-! DEFINITION. What the platform or the implementation fixes (00_scope.md R9): the named parameters with the
values the spec assigns, the interface types of 60_exceptions.md R400, and the open parameters as constants
without a body (free values). -/

namespace Sys2Proof.Config

/-- A page-table entry (10_state.md R52): the I/O sentinel, or an 8192-byte window of some buffer. Windows are
named by natural numbers (log 7). -/
inductive PageEntry where
  | io
  | buf (window : Nat)
  deriving DecidableEq, Repr, Inhabited

/-- The four interrupt sources (R18, R57). IRQ is the video-sync IRQ. -/
inductive Source where
  | nmi
  | irq
  | irq2
  | timer
  deriving DecidableEq, Repr, Inhabited

/-- The six results of the periodic callback (R401). -/
inductive CallbackResult where
  | none
  | request (source : Source)
  | quit
  deriving DecidableEq, Repr, Inhabited

/-- One answer of the periodic callback: its result, and the bytes of buffers the host changed meanwhile
("anything outside the core's state, e.g. video memory held in buffers", R431; log 13). -/
structure CallbackAnswer where
  result : CallbackResult
  pokes  : List Host.Cell
  deriving DecidableEq, Repr, Inhabited

/-- The peripheral's individual masks at one check point (`irq_masked`, R400, R414; log 14). -/
structure IrqMask where
  irq   : Bool
  irq2  : Bool
  timer : Bool
  deriving DecidableEq, Repr, Inhabited

/-- The operation `decimalNonBcd` is asked for (40_arith_logic.md R157). -/
inductive DecimalOp where
  | add
  | sub
  deriving DecidableEq, Repr, Inhabited

/-- What the 22 undefined opcodes do (R9, R140, D5). -/
inductive UndefinedPolicy where
  | halt
  | nop
  deriving DecidableEq, Repr, Inhabited

/-! ## Parameters with a value -/

/-- Cycles in one scanline-equivalent window (R9, D15; log 20). -/
def scanlineBudget : Nat := 455

/-- Extra cycles of a Transfer-mode ALU operation (R9, D7; log 20). -/
def tmodeExtra : Nat := 3

/-- Extra cycles of decimal-mode ADC and SBC (R9, D9). -/
def decimalExtra : Nat := 1

/-- Extra cycles of a taken branch (R9). -/
def branchExtra : Nat := 2

/-- Base cost of a block transfer (R9, R300). -/
def blockBase : Nat := 17

/-- Cost of one transferred byte (R9, R300). -/
def blockPerByte : Nat := 6

/-- Cost of interrupt entry (R419, D11; log 20). -/
def intEntryCycles : Nat := 7

/-- `UNDEFINED_POLICY` (R9, D5; log 15). -/
def undefinedPolicy : UndefinedPolicy := .halt

/-- Bytes in one window (20_memory.md R72). -/
def windowSize : Nat := 8192

/-- The window that holds the zero page and the stack page (20_memory.md R72), named by the bank number of the
PC Engine's work RAM (log 7). -/
def baseRam : Nat := 0xF8

/-- What a buffer byte reads as where nothing is listed (log 6, DESIGN CHOICE). -/
def memoryFill : Byte := 0x00

/-! ## Open parameters: free values -/

/-- `decimalNonBcd(op, a, b, cin) -> (r, carry)` (R157, D10): open, so a constant without a body. For `sub`,
`cin` is the borrow (log 9). -/
opaque decimalNonBcd : DecimalOp → Byte → Byte → Bool → Byte × Bool

/-- `bankMap(slot, value)`: the read and write entries the bank manager makes (R78): open (log 10). -/
opaque bankMap : Fin 8 → Byte → PageEntry × PageEntry

/-- The byte the `n`-th drawn answer gives for `io_read(addr)` (R76): open (log 11). -/
opaque ioAnswer : Nat → Word → Byte

/-- The `n`-th drawn answer as `timer_period()` (R412): open (log 12). -/
opaque periodAnswer : Nat → Nat

/-- The `n`-th drawn answer as a host pause, in the cycles it adds to `timerDelta` (R431): open (log 35). -/
opaque pauseAnswer : Nat → Nat

/-- The `n`-th drawn answer as `periodic_callback()` (R401): open (log 13). -/
opaque callbackAnswer : Nat → CallbackAnswer

/-- The `n`-th drawn answer as the individual masks (R414): open (log 14). -/
opaque maskAnswer : Nat → IrqMask

end Sys2Proof.Config
end

