-- ==== Sys2Proof/Machine/Memory.lean ====
section
/-! DEFINITION. Buffer bytes as one list of cells (20_memory.md R72, R73): keys strictly rising, no entry equal to
the fill byte. A cell's key is `window * 8192 + offset` (log 7). -/

namespace Sys2Proof.Machine

open Sys2Proof.Config

abbrev Memory := List Host.Cell

/-- The key of byte `offset` of window `w` (R73). -/
def cellKey (w offset : Nat) : Nat := w * windowSize + offset

/-- One byte: the listed one, or what an unlisted byte reads as (log 6). -/
def Memory.read : Memory → Nat → Byte
  | [], _ => memoryFill
  | (k', v) :: m, k => if k' = k then v else Memory.read m k

/-- The memory without any entry for `k`. -/
def Memory.erase : Memory → Nat → Memory
  | [], _ => []
  | (k', v) :: m, k => if k' = k then Memory.erase m k else (k', v) :: Memory.erase m k

/-- An entry put at its place in rising order. -/
def Memory.insert : Memory → Nat → Byte → Memory
  | [], k, v => [(k, v)]
  | (k', v') :: m, k, v => if k < k' then (k, v) :: (k', v') :: m else (k', v') :: Memory.insert m k v

/-- One byte written; writing the fill byte removes the entry. -/
def Memory.write (m : Memory) (k : Nat) (v : Byte) : Memory :=
  if v = memoryFill then Memory.erase m k else Memory.insert (Memory.erase m k) k v

/-- Several bytes written, in the order listed. -/
def Memory.writeAll : Memory → List Host.Cell → Memory
  | m, [] => m
  | m, (k, v) :: cs => Memory.writeAll (Memory.write m k v) cs

/-- The canonical form: keys strictly rising, no entry equal to the fill byte. -/
abbrev Memory.wf (m : Memory) : Prop :=
  m.Pairwise (fun c d => c.1 < d.1) ∧ ∀ c ∈ m, c.2 ≠ memoryFill

end Sys2Proof.Machine
end

