-- ==== Sys2Proof/Machine/State.lean ====
section
/-! DEFINITION. The state record (10_state.md R30 to R60), why a step can stop, and the state after reset. -/

namespace Sys2Proof.Machine

open Sys2Proof.Config

/-- The general 8-bit registers by name (R31 to R33). -/
inductive Reg where
  | a
  | x
  | y
  | s
  deriving DecidableEq, Repr

/-- The flags of P (R36). -/
inductive Flag where
  | c
  | z
  | i
  | d
  | b
  | t
  | v
  | n
  deriving DecidableEq, Repr

/-- The set of pending interrupt requests (R57), one Bool a source. -/
structure Pending where
  nmi   : Bool
  irq   : Bool
  irq2  : Bool
  timer : Bool
  deriving DecidableEq, Repr

/-- Running, Quit, or Halted with the halting instruction's address and opcode byte (R58). -/
inductive Status where
  | running
  | quit
  | halted (pc : Word) (opcode : Byte)
  deriving DecidableEq, Repr

/-- Scripted answers of one collaborator: first `upcoming`, one a call; then `steady`, if there is one; then the
free values of Config (log 2). The model's own. -/
structure Feed (α : Type) where
  upcoming : List α
  steady   : Option α
  deriving DecidableEq, Repr

/-- One scripted row of the bank manager's mapping (R78, log 2). The model's own. -/
structure BankRow where
  slot  : Fin 8
  value : Byte
  read  : PageEntry
  write : PageEntry
  deriving DecidableEq, Repr

/-- The scripted part of the platform: the collaborators (R400, log 2) and the host's pauses (R431, log 35). The model's
own. -/
structure Platform where
  banks     : List BankRow
  io        : Feed Byte
  periods   : Feed Nat
  pauses    : Feed Nat
  callbacks : Feed CallbackAnswer
  masks     : Feed IrqMask
  deriving DecidableEq, Repr

/-- One call of the core to a collaborator, with its answer (R400; log 3). The model's own record. -/
inductive ExtCall where
  | ioRead (addr : Word) (answer : Byte)
  | ioWrite (addr : Word) (value : Byte)
  | bankSet (slot : Fin 8) (value : Byte)
  | callback (result : CallbackResult)
  | timerPeriod (period : Nat)
  | irqMasked (source : Source) (answer : Bool)
  | dump (a x y s p : Byte) (pc : Word) (mpr : Vector Byte 8)
  deriving DecidableEq, Repr

/-- The machine's state. The first block is the spec's (R30); `platform`, `draws` and `calls` are the model's own
(log 1, 2, 3). -/
structure State where
  /-- accumulator A (R31) -/
  a          : Byte
  /-- index register X (R32) -/
  x          : Byte
  /-- index register Y (R32) -/
  y          : Byte
  /-- stack pointer S (R33) -/
  sp         : Byte
  /-- program counter (R34) -/
  pc         : Word
  /-- status register P (R36, R45) -/
  p          : Byte
  /-- banking registers MPR[0..7] (R50) -/
  mpr        : Vector Byte 8
  /-- read page table (R52) -/
  pageR      : Vector PageEntry 8
  /-- write page table (R52) -/
  pageW      : Vector PageEntry 8
  /-- every buffer byte, BASE_RAM included (R72) -/
  mem        : Memory
  /-- cycles in the current scanline window (R55) -/
  scanCycles : Nat
  /-- cycles since the last timer firing (R56) -/
  timerDelta : Nat
  /-- pending interrupt requests (R57) -/
  pending    : Pending
  /-- Running, Quit or Halted (R58) -/
  status     : Status
  /-- scripted collaborators (log 2) -/
  platform   : Platform
  /-- free answers drawn so far (log 1) -/
  draws      : Nat
  /-- calls made to collaborators, newest first (log 3) -/
  calls      : List ExtCall
  deriving DecidableEq, Repr

/-- Why the machine stops. -/
inductive Fault where
  /-- Raised by `step` alone, on a state whose status is Quit or Halted: "no step is taken from a non-Running
  state" (R58, R407). Safe: the hardware takes no step there either. -/
  | loopEnded
  deriving DecidableEq, Repr

/-- Why an instruction has no meaning. -/
inductive Refusal where
  /-- Raised by `exec`'s arms for an instruction without a meaning, by its mnemonic. No arm uses it. Safe. -/
  | notModelled (mnemonic : String)
  /-- Raised by `step` if the bytes fetched do not decode. A fetch reads exactly the instruction's bytes, so
  this is never reached (`Laws.step_never_refuses`). Safe. -/
  | undecodable
  deriving DecidableEq, Repr

abbrev Out := Host.Outcome State Fault Refusal

/-- A platform with nothing scripted: every answer is a free value (log 2). -/
def Platform.free : Platform :=
  { banks := [], io := ⟨[], none⟩, periods := ⟨[], none⟩, pauses := ⟨[], none⟩, callbacks := ⟨[], none⟩,
    masks := ⟨[], none⟩ }

def Pending.empty : Pending := { nmi := false, irq := false, irq2 := false, timer := false }

/-- Everything reset takes from outside or leaves without a value (70_reset_and_hazards.md R460, R431): the loaded
buffers, `PAGE_TABLE_INIT`, `MPR_RESET`, the collaborators, and a draw for each state element of R59 that holds
no value. -/
structure Boot where
  mem      : Memory
  pageR    : Vector PageEntry 8
  pageW    : Vector PageEntry 8
  mpr      : Vector Byte 8
  platform : Platform
  a        : Byte
  x        : Byte
  y        : Byte
  sp       : Byte
  c        : Bool
  z        : Bool
  v        : Bool
  n        : Bool
  deriving DecidableEq, Repr

/-- The values this model names where R59 and R460 give none: all ones for A, X, Y, S, C, Z, V, N (log 4), zero for
the MPRs and window 0 for every page-table entry (log 5), nothing loaded (log 6, 8), nothing scripted (log 2). -/
def Boot.named : Boot :=
  { mem := [], pageR := Vector.replicate 8 (.buf 0), pageW := Vector.replicate 8 (.buf 0),
    mpr := Vector.replicate 8 0x00, platform := Platform.free,
    a := 0xFF, x := 0xFF, y := 0xFF, sp := 0xFF, c := true, z := true, v := true, n := true }

/-- The machine right after reset with nothing loaded: R59 and R460, with `Boot.named` where they give no value.
P is `N:V:T:B:D:I:Z:C = 1:1:0:0:0:1:1:1`. PC is the word at $FFFE of memory with nothing listed (log 8). -/
def State.reset : State :=
  { a := 0xFF, x := 0xFF, y := 0xFF, sp := 0xFF, pc := 0x0000, p := 0xC7,
    mpr := Vector.replicate 8 0x00, pageR := Vector.replicate 8 (.buf 0), pageW := Vector.replicate 8 (.buf 0),
    mem := [], scanCycles := 0, timerDelta := 0, pending := Pending.empty, status := .running,
    platform := Platform.free, draws := 0, calls := [] }

end Sys2Proof.Machine
end

