-- ==== Sys2Proof/Machine/Flags.lean ====
section
/-! DEFINITION. The flags of P and every flag and result computation (10_state.md R36 to R45; 00_scope.md R14, R15;
40_arith_logic.md; 41_shift_bit.md). Each computation takes the old P and answers the result byte and the new P. -/

namespace Sys2Proof.Machine

open Sys2Proof.Config

/-- Bit positions in P (R36, D1; log 17). -/
def Flag.bit : Flag → Nat
  | .c => 0
  | .z => 1
  | .i => 2
  | .d => 3
  | .b => 4
  | .t => 5
  | .v => 6
  | .n => 7

def Flag.mask (f : Flag) : Byte := 1#8 <<< f.bit

/-- A flag of a P byte. -/
def flag (p : Byte) (f : Flag) : Bool := p.getLsbD f.bit

/-- The P byte with one flag written. -/
def setFlag (p : Byte) (f : Flag) (v : Bool) : Byte :=
  if v then p ||| f.mask else p &&& ~~~f.mask

/-- `setNZ(v)`: Z and N from `v`, T cleared, the rest unchanged (R14). -/
def setNZ (v p : Byte) : Byte :=
  setFlag (setFlag (setFlag p .z (v == 0)) .n (v.getLsbD 7)) .t false

/-- N, V from bits 7, 6 of `m`, Z as given, T cleared: BIT, TST, TSB, TRB (R210 to R213). -/
def setNVZ (m : Byte) (z : Bool) (p : Byte) : Byte :=
  setFlag (setFlag (setFlag (setFlag p .n (m.getLsbD 7)) .v (m.getLsbD 6)) .z z) .t false

/-- A result byte and the P byte after it. -/
structure Result where
  val : Byte
  p   : Byte
  deriving DecidableEq, Repr

/-! ## BCD (R15) -/

def bcdDecode (b : Byte) : Nat := 10 * (b.toNat / 16) + b.toNat % 16

/-- For `0 ≤ n ≤ 199` (R15). -/
def bcdEncode (n : Nat) : Byte := BitVec.ofNat 8 (16 * ((n % 100) / 10) + n % 10)

def validBcd (b : Byte) : Bool := decide (b.toNat / 16 ≤ 9) && decide (b.toNat % 16 ≤ 9)

/-! ## ADC and SBC (R150, R151, R157) -/

/-- The binary half of `addCore` (R150): C from the unsigned sum, V from the signed one. -/
def addBinary (a b p : Byte) : Result :=
  let c := (flag p .c).toNat
  let u := a.toNat + b.toNat + c
  let sum := a.toInt + b.toInt + c
  let r := BitVec.ofNat 8 u
  ⟨r, setNZ r (setFlag (setFlag p .c (decide (255 < u))) .v (decide (127 < sum) || decide (sum < -128)))⟩

/-- The result byte and carry of a decimal add; free for an operand that is not valid BCD (R150, R157; log 9). -/
def addDecimalValue (a b : Byte) (c : Bool) : Byte × Bool :=
  if validBcd a && validBcd b then
    let t := bcdDecode a + bcdDecode b + c.toNat
    (bcdEncode t, decide (99 < t))
  else decimalNonBcd .add a b c

/-- The decimal half of `addCore` (R150): V cleared (D8; log 21), N and Z from the result byte. -/
def addDecimal (a b p : Byte) : Result :=
  let v := addDecimalValue a b (flag p .c)
  ⟨v.1, setNZ v.1 (setFlag (setFlag p .c v.2) .v false)⟩

/-- `addCore(a, b)` (R150). Its decimal cycle is `decimalCost`. -/
def addCore (a b p : Byte) : Result :=
  if flag p .d then addDecimal a b p else addBinary a b p

/-- The binary half of SBC (R151); the borrow in is `1 - C`. -/
def subBinary (a b p : Byte) : Result :=
  let w := (!flag p .c).toNat
  let u : Int := (a.toNat : Int) - b.toNat - w
  let dif := a.toInt - b.toInt - w
  let r := BitVec.ofInt 8 u
  ⟨r, setNZ r (setFlag (setFlag p .c (decide (0 ≤ u))) .v (decide (127 < dif) || decide (dif < -128)))⟩

/-- The result byte and carry of a decimal subtract (R151, D9; log 21); free for an operand that is not valid BCD
(R157; log 9). -/
def subDecimalValue (a b : Byte) (w : Bool) : Byte × Bool :=
  if validBcd a && validBcd b then
    let t : Int := (bcdDecode a : Int) - bcdDecode b - w.toNat
    (bcdEncode (t % 100).toNat, decide (0 ≤ t))
  else decimalNonBcd .sub a b w

def subDecimal (a b p : Byte) : Result :=
  let v := subDecimalValue a b (!flag p .c)
  ⟨v.1, setNZ v.1 (setFlag (setFlag p .c v.2) .v false)⟩

/-- `subCore(a, b)` (R151). -/
def subCore (a b p : Byte) : Result :=
  if flag p .d then subDecimal a b p else subBinary a b p

/-- The extra cycle of ADC and SBC in decimal mode (R150, R151, R471). -/
def decimalCost (p : Byte) : Nat := if flag p .d then decimalExtra else 0

/-! ## Logic and compare (R153 to R155, R160 to R163) -/

def andCore (a b p : Byte) : Result := ⟨a &&& b, setNZ (a &&& b) p⟩

def orCore (a b p : Byte) : Result := ⟨a ||| b, setNZ (a ||| b) p⟩

def xorCore (a b p : Byte) : Result := ⟨a ^^^ b, setNZ (a ^^^ b) p⟩

/-- C iff `r ≥ b` unsigned; Z, N from the difference (R160, R163). -/
def compareFlags (r b p : Byte) : Byte := setNZ (r - b) (setFlag p .c (decide (b.toNat ≤ r.toNat)))

/-! ## Shifts, rotates, increment, decrement (R200 to R205) -/

def aslCore (v p : Byte) : Result :=
  let r := v <<< 1
  ⟨r, setNZ r (setFlag p .c (v.getLsbD 7))⟩

def lsrCore (v p : Byte) : Result :=
  let r := v >>> 1
  ⟨r, setNZ r (setFlag p .c (v.getLsbD 0))⟩

/-- The incoming carry enters bit 0 (R202). -/
def rolCore (v p : Byte) : Result :=
  let r := (v <<< 1) ||| (if flag p .c then 0x01 else 0x00)
  ⟨r, setNZ r (setFlag p .c (v.getLsbD 7))⟩

/-- The incoming carry enters bit 7 (R203). -/
def rorCore (v p : Byte) : Result :=
  let r := (v >>> 1) ||| (if flag p .c then 0x80 else 0x00)
  ⟨r, setNZ r (setFlag p .c (v.getLsbD 0))⟩

def incCore (v p : Byte) : Result := ⟨v + 1, setNZ (v + 1) p⟩

def decCore (v p : Byte) : Result := ⟨v - 1, setNZ (v - 1) p⟩

/-! ## Bit test and bit modify (R210 to R216) -/

/-- BIT and TST: N, V from `m`, Z from `mask AND m` (R210, R211). -/
def bitFlags (mask m p : Byte) : Byte := setNVZ m ((mask &&& m) == 0) p

/-- TSB: the bits of `a` set; N, V from the written byte (R212, D32; log 28). -/
def tsbCore (a m p : Byte) : Result := ⟨m ||| a, setNVZ (m ||| a) ((a &&& m) == 0) p⟩

/-- TRB: the bits of `a` reset (R213, D32; log 28). -/
def trbCore (a m p : Byte) : Result := ⟨m &&& ~~~a, setNVZ (m &&& ~~~a) ((a &&& m) == 0) p⟩

def resetBit (n : Nat) (v : Byte) : Byte := v &&& ~~~(1#8 <<< n)

def setBit (n : Nat) (v : Byte) : Byte := v ||| (1#8 <<< n)

end Sys2Proof.Machine
end

