-- ==== Sys2Proof/Machine/Timing.lean ====
section
/-! DEFINITION. The base cycle cost of every opcode (70_reset_and_hazards.md R470, D44; log 20). -/

namespace Sys2Proof.Machine

/-- The table of R470, one list a row of it; 0 marks an undefined opcode. -/
def cycleTable : List (List Nat) :=
  [ [8, 7, 3, 4, 6, 4, 6, 7, 3, 2, 2, 0, 7, 5, 7, 6],
    [2, 7, 7, 4, 6, 4, 6, 7, 2, 5, 2, 0, 7, 5, 7, 6],
    [7, 7, 3, 4, 4, 4, 6, 7, 4, 2, 2, 0, 5, 5, 7, 6],
    [2, 7, 7, 0, 4, 4, 6, 7, 2, 5, 2, 0, 5, 5, 7, 6],
    [7, 7, 3, 4, 8, 4, 6, 7, 3, 2, 2, 0, 4, 5, 7, 6],
    [2, 7, 7, 5, 3, 4, 6, 7, 2, 5, 3, 0, 0, 5, 7, 6],
    [7, 7, 2, 0, 4, 4, 6, 7, 4, 2, 2, 0, 7, 5, 7, 6],
    [2, 7, 7, 17, 4, 4, 6, 7, 2, 5, 4, 0, 7, 5, 7, 6] ] ++
  [ [4, 7, 2, 7, 4, 4, 4, 7, 2, 2, 2, 0, 5, 5, 5, 6],
    [2, 7, 7, 8, 4, 4, 4, 7, 2, 5, 2, 0, 5, 5, 5, 6],
    [2, 7, 2, 7, 4, 4, 4, 7, 2, 2, 2, 0, 5, 5, 5, 6],
    [2, 7, 7, 8, 4, 4, 4, 7, 2, 5, 2, 0, 5, 5, 5, 6],
    [2, 7, 2, 17, 4, 4, 6, 7, 2, 2, 2, 0, 5, 5, 7, 6],
    [2, 7, 7, 17, 3, 4, 6, 7, 2, 5, 3, 0, 0, 5, 7, 6],
    [2, 7, 0, 17, 4, 4, 6, 7, 2, 2, 2, 0, 5, 5, 7, 6],
    [2, 7, 7, 17, 2, 4, 6, 7, 2, 5, 4, 0, 0, 5, 7, 6] ]

/-- `CYCLES(op)` (R470). -/
def cycles (op : Byte) : Nat := (cycleTable.getD (op.toNat / 16) []).getD (op.toNat % 16) 0

end Sys2Proof.Machine
end

