-- ==== Sys2Proof/Machine/Ops.lean ====
section
/-! DEFINITION. The named operations over registers, memory and the collaborators: register access, cost and PC,
the I/O interface, paged access (20_memory.md R71 to R78), zero page and stack (R80 to R82), bank switching,
interrupt entry and return (60_exceptions.md R417, 42_control.md R268, R269), halt (R407) and reset (R460). -/

namespace Sys2Proof.Machine

open Sys2Proof.Config

/-! ## Registers and flags -/

def State.get (s : State) : Reg → Byte
  | .a => s.a
  | .x => s.x
  | .y => s.y
  | .s => s.sp

def State.set (s : State) (r : Reg) (v : Byte) : State :=
  match r with
  | .a => { s with a := v }
  | .x => { s with x := v }
  | .y => { s with y := v }
  | .s => { s with sp := v }

def State.withP (s : State) (p : Byte) : State := { s with p := p }

def State.withPc (s : State) (pc : Word) : State := { s with pc := pc }

/-- One flag written. -/
def State.putFlag (s : State) (f : Flag) (v : Bool) : State := s.withP (setFlag s.p f v)

/-- `P.T <- 0` (R42, D6). -/
def clearT (s : State) : State := s.putFlag .t false

/-! ## Cost and PC (R13, R114) -/

/-- `cycles += n`: cost goes to both counters (R13, R410 step 2; log 33). -/
def addCost (n : Nat) (s : State) : State :=
  { s with scanCycles := s.scanCycles + n, timerDelta := s.timerDelta + n }

/-- PC advanced by the instruction's length, modulo 65536 (R114), and a cost charged. -/
def advance (len cost : Nat) (s : State) : State :=
  addCost cost (s.withPc (s.pc + BitVec.ofNat 16 len))

/-- What every instruction but a block transfer and an undefined opcode does first: PC advanced, `CYCLES(op)`
charged. -/
def start (op : Byte) (len : Nat) (s : State) : State := advance len (cycles op) s

/-! ## The collaborators' answers (R400) -/

/-- The next answer: scripted, else the free value (log 2). -/
def Feed.answer {α : Type} (f : Feed α) (free : α) : α :=
  match f.upcoming with
  | v :: _ => v
  | [] => f.steady.getD free

/-- The script after one answer. -/
def Feed.rest {α : Type} (f : Feed α) : Feed α := { f with upcoming := f.upcoming.tail }

/-- One call recorded (log 3). -/
def record (c : ExtCall) (s : State) : State := { s with calls := c :: s.calls }

/-- The byte `io_read(addr)` answers now (R76; log 11). -/
def ioReadValue (addr : Word) (s : State) : Byte := s.platform.io.answer (ioAnswer s.draws addr)

/-- `IoRead(addr)` (R76): one call; no core state changes (D42). -/
def ioRead (addr : Word) (s : State) : Byte × State :=
  (ioReadValue addr s,
   { s with platform := { s.platform with io := s.platform.io.rest }, draws := s.draws + 1,
            calls := .ioRead addr (ioReadValue addr s) :: s.calls })

/-- `IoWrite(addr, v)` (R76): one call to the sink; no core state changes (D42). -/
def ioWrite (addr : Word) (v : Byte) (s : State) : State := record (.ioWrite addr v) s

/-! ## Paged access (R71 to R77) -/

/-- `addr[15:13]` (R71). -/
def slot (addr : Word) : Fin 8 := (addr.extractLsb' 13 3).toFin

/-- `addr[12:0]` (R71). -/
def offset (addr : Word) : Nat := (addr.extractLsb' 0 13).toNat

/-- The cell a page-table entry gives an address, none for the I/O sentinel (R73). -/
def entryCell (e : PageEntry) (addr : Word) : Option Nat :=
  match e with
  | .io => none
  | .buf w => some (cellKey w (offset addr))

/-- The cell a read of `addr` reaches (R74). -/
def readCell (addr : Word) (s : State) : Option Nat := entryCell (s.pageR.get (slot addr)) addr

/-- The cell a write of `addr` reaches (R75). -/
def writeCell (addr : Word) (s : State) : Option Nat := entryCell (s.pageW.get (slot addr)) addr

def writeMem (k : Nat) (v : Byte) (s : State) : State := { s with mem := s.mem.write k v }

/-- `MemRead(addr, 1)` (R74). -/
def memRead (addr : Word) (s : State) : Byte × State :=
  match readCell addr s with
  | some k => (s.mem.read k, s)
  | none => ioRead addr s

/-- `MemWrite(addr, 1, v)` (R75). -/
def memWrite (addr : Word) (v : Byte) (s : State) : State :=
  match writeCell addr s with
  | some k => writeMem k v s
  | none => ioWrite addr v s

/-- `MemRead(addr, 2)`: two byte reads, low first (R77; log 26). -/
def memRead16 (addr : Word) (s : State) : Word × State :=
  let lo := memRead addr s
  let hi := memRead (addr + 1) lo.2
  (mkWord hi.1 lo.1, hi.2)

/-! ## Zero page and stack (R80 to R82), in BASE_RAM (R72; log 7) -/

def zpCell (z : Byte) : Nat := cellKey baseRam z.toNat

def zpRead (z : Byte) (s : State) : Byte := s.mem.read (zpCell z)

def zpWrite (z v : Byte) (s : State) : State := writeMem (zpCell z) v s

/-- A zero-page pointer; its high byte wraps within the page (R81). -/
def zpRead16 (z : Byte) (s : State) : Word := mkWord (zpRead (z + 1) s) (zpRead z s)

/-- `BASE_RAM[$100 + S]` (R82). -/
def stackCell (sp : Byte) : Nat := cellKey baseRam (0x100 + sp.toNat)

def push (v : Byte) (s : State) : State :=
  { s with mem := s.mem.write (stackCell s.sp) v, sp := s.sp - 1 }

def pull (s : State) : Byte × State :=
  (s.mem.read (stackCell (s.sp + 1)), { s with sp := s.sp + 1 })

/-- High byte first (R82; log 24). -/
def push16 (w : Word) (s : State) : State := push (loByte w) (push (hiByte w) s)

def pull16 (s : State) : Word × State :=
  let lo := pull s
  let hi := pull lo.2
  (mkWord hi.1 lo.1, hi.2)

/-! ## Banks (R50, R78) -/

/-- `bankMap(i, v)`: scripted, else open (R78; log 10). -/
def bankEntries (i : Fin 8) (v : Byte) (s : State) : PageEntry × PageEntry :=
  match s.platform.banks.find? (fun r => r.slot == i && r.value == v) with
  | some r => (r.read, r.write)
  | none => bankMap i v

/-- `MPR[i] <- v` with its `BankSet(i, v)` (R50, R78): entry `i` of both page tables, no other. -/
def writeMpr (i : Fin 8) (v : Byte) (s : State) : State :=
  { s with mpr := s.mpr.set i v,
           pageR := s.pageR.set i (bankEntries i v s).1,
           pageW := s.pageW.set i (bankEntries i v s).2,
           calls := .bankSet i v :: s.calls }

/-! ## Taking an interrupt and returning from one -/

/-- The vector of a source (R418, R88, D3; log 18). BRK shares IRQ2's (D4). -/
def vectorOf : Source → Word
  | .irq2 => 0xFFF6
  | .irq => 0xFFF8
  | .timer => 0xFFFA
  | .nmi => 0xFFFC

/-- The reset vector (R88, R418). -/
def resetVector : Word := 0xFFFE

/-- Interrupt entry and BRK alike (R417, R268): the return address and a P byte pushed, D cleared, I set if asked,
PC loaded from the vector. -/
def takeInterrupt (ret : Word) (pushed : Byte) (setI : Bool) (vector : Word) (s : State) : State :=
  let s1 := push pushed (push16 ret s)
  let s2 := s1.putFlag .d false
  let s3 := if setI then s2.putFlag .i true else s2
  let t := memRead16 vector s3
  t.2.withPc t.1

/-- RTI (R269): P from the stack with B forced clear, then PC. -/
def returnFromInterrupt (s : State) : State :=
  let v := pull s
  let t := pull16 (v.2.withP (setFlag v.1 .b false))
  t.2.withPc t.1

/-- The halt signal (R407, R385): status and the dump of all registers; nothing else changes (log 15, 29). -/
def halt (op : Byte) (s : State) : State :=
  record (.dump s.a s.x s.y s.sp s.p s.pc s.mpr) { s with status := .halted s.pc op }

/-! ## Reset (R460) -/

/-- P after reset (R59): I = 1, D = T = B = 0, and the draws for C, Z, V, N. -/
def resetP (b : Boot) : Byte :=
  setFlag (setFlag (setFlag (setFlag (setFlag 0x00 .i true) .c b.c) .z b.z) .v b.v) .n b.n

/-- The state before the vector is read. -/
def bootState (b : Boot) : State :=
  { a := b.a, x := b.x, y := b.y, sp := b.sp, pc := 0x0000, p := resetP b, mpr := b.mpr, pageR := b.pageR,
    pageW := b.pageW, mem := b.mem, scanCycles := 0, timerDelta := 0, pending := Pending.empty,
    status := .running, platform := b.platform, draws := 0, calls := [] }

/-- Reset of a machine the host has loaded (R460): PC from the reset vector through `PageR[7]`, no `bank_set`, no
cost. -/
def resetWith (b : Boot) : State :=
  let t := memRead16 resetVector (bootState b)
  t.2.withPc t.1

end Sys2Proof.Machine
end

