-- ==== Sys2Proof/Machine/Operands.lean ====
section
/-! DEFINITION. Addressing modes (30_encoding.md R120 to R136): locations, effective addresses, operands. -/

namespace Sys2Proof.Machine

/-- A location (30_encoding.md section 3): a zero-page byte or a logical address. -/
inductive Loc where
  | zp (z : Byte)
  | log (addr : Word)
  deriving DecidableEq, Repr

/-- The memory addressing modes with their operand bytes (R121 to R129). -/
inductive Mode where
  | zp (z : Byte)
  | zpx (z : Byte)
  | zpy (z : Byte)
  | abs (addr : Word)
  | absx (addr : Word)
  | absy (addr : Word)
  | zpi (z : Byte)
  | zpix (z : Byte)
  | zpiy (z : Byte)
  deriving DecidableEq, Repr

/-- A read operand: immediate (R120) or in memory. -/
inductive Src where
  | imm (v : Byte)
  | mem (m : Mode)
  deriving DecidableEq, Repr

/-- Instruction length of a mode's format (R111). -/
def Mode.length : Mode → Nat
  | .zp _ => 2
  | .zpx _ => 2
  | .zpy _ => 2
  | .abs _ => 3
  | .absx _ => 3
  | .absy _ => 3
  | .zpi _ => 2
  | .zpix _ => 2
  | .zpiy _ => 2

def Src.length : Src → Nat
  | .imm _ => 2
  | .mem m => m.length

/-- `ea(mode)` (R121 to R129): a pure read, pointers from the zero page. -/
def Mode.loc : Mode → State → Loc
  | .zp z, _ => .zp z
  | .zpx z, s => .zp (z + s.x)
  | .zpy z, s => .zp (z + s.y)
  | .abs addr, _ => .log addr
  | .absx addr, s => .log (addr + zext s.x)
  | .absy addr, s => .log (addr + zext s.y)
  | .zpi z, s => .log (zpRead16 z s)
  | .zpix z, s => .log (zpRead16 (z + s.x) s)
  | .zpiy z, s => .log (zpRead16 z s + zext s.y)

/-- `ReadLoc`. -/
def readLoc : Loc → State → Byte × State
  | .zp z, s => (zpRead z s, s)
  | .log addr, s => memRead addr s

/-- `WriteLoc`. -/
def writeLoc : Loc → Byte → State → State
  | .zp z, v, s => zpWrite z v s
  | .log addr, v, s => memWrite addr v s

/-- The cell a write of a location stores to; none if it goes to the I/O handler. -/
def Loc.cell : Loc → State → Option Nat
  | .zp z, _ => some (zpCell z)
  | .log addr, s => writeCell addr s

/-- `operand(mode)`: the immediate, or one read of the location (R136). -/
def operand : Src → State → Byte × State
  | .imm v, s => (v, s)
  | .mem m, s => readLoc (m.loc s) s

/-- A displacement added to an address, modulo 65536 (R132, R133). -/
def branchTarget (next : Word) (rel : Int) : Word := next + BitVec.ofInt 16 rel

end Sys2Proof.Machine
end

