-- ==== Sys2Proof/Machine/Arith.lean ====
section
/-! DEFINITION. Arithmetic, logic and compare (40_arith_logic.md R150 to R163): the shared operations, then one meaning an instruction. -/

namespace Sys2Proof.Machine

open Sys2Proof.Config

/-- An operation on A and an operand: `A <- f(A, operand)`. -/
def accAlu (f : Byte → Byte → Byte → Result) (op : Byte) (m : Src) (s : State) : State :=
  let b := operand m (start op m.length s)
  let r := f b.2.a b.1 b.2.p
  (b.2.withP r.p).set .a r.val

/-- The Transfer-mode substitution (R152): the zero-page byte at X in place of A, which is neither read nor written. -/
def zpAlu (f : Byte → Byte → Byte → Result) (op : Byte) (m : Src) (s : State) : State :=
  let b := operand m (start op m.length s)
  let r := f (zpRead b.2.x b.2) b.1 b.2.p
  addCost tmodeExtra (zpWrite b.2.x r.val (b.2.withP r.p))

/-- AND, ORA, EOR, ADC (R117, R152): Transfer mode when T = 1 at the start. -/
def transferAlu (f : Byte → Byte → Byte → Result) (op : Byte) (m : Src) (s : State) : State :=
  if flag s.p .t then zpAlu f op m s else accAlu f op m s

/-- ADC (R150), with the decimal-mode cycle. -/
def adc (op : Byte) (m : Src) (s : State) : State :=
  addCost (decimalCost s.p) (transferAlu addCore op m s)

/-- SBC (R151): never Transfer mode. -/
def sbc (op : Byte) (m : Src) (s : State) : State :=
  addCost (decimalCost s.p) (accAlu subCore op m s)

/-- CMP, CPX, CPY (R160 to R162): only flags are written. -/
def compareReg (r : Reg) (op : Byte) (m : Src) (s : State) : State :=
  let b := operand m (start op m.length s)
  b.2.withP (compareFlags (b.2.get r) b.1 b.2.p)

/-- `ADC (z,X)` (R150). -/
def execAdcZpix (z : Byte) (s : State) : Out := .next (adc 0x61 (.mem (.zpix z)) s)

/-- `ADC z` (R150). -/
def execAdcZp (z : Byte) (s : State) : Out := .next (adc 0x65 (.mem (.zp z)) s)

/-- `ADC #i` (R150). -/
def execAdcImm (v : Byte) (s : State) : Out := .next (adc 0x69 (.imm v) s)

/-- `ADC a` (R150). -/
def execAdcAbs (addr : Word) (s : State) : Out := .next (adc 0x6D (.mem (.abs addr)) s)

/-- `ADC (z),Y` (R150). -/
def execAdcZpiy (z : Byte) (s : State) : Out := .next (adc 0x71 (.mem (.zpiy z)) s)

/-- `ADC (z)` (R150). -/
def execAdcZpi (z : Byte) (s : State) : Out := .next (adc 0x72 (.mem (.zpi z)) s)

/-- `ADC z,X` (R150). -/
def execAdcZpx (z : Byte) (s : State) : Out := .next (adc 0x75 (.mem (.zpx z)) s)

/-- `ADC a,Y` (R150). -/
def execAdcAbsy (addr : Word) (s : State) : Out := .next (adc 0x79 (.mem (.absy addr)) s)

/-- `ADC a,X` (R150). -/
def execAdcAbsx (addr : Word) (s : State) : Out := .next (adc 0x7D (.mem (.absx addr)) s)

/-- `SBC (z,X)` (R151). -/
def execSbcZpix (z : Byte) (s : State) : Out := .next (sbc 0xE1 (.mem (.zpix z)) s)

/-- `SBC z` (R151). -/
def execSbcZp (z : Byte) (s : State) : Out := .next (sbc 0xE5 (.mem (.zp z)) s)

/-- `SBC #i` (R151). -/
def execSbcImm (v : Byte) (s : State) : Out := .next (sbc 0xE9 (.imm v) s)

/-- `SBC a` (R151). -/
def execSbcAbs (addr : Word) (s : State) : Out := .next (sbc 0xED (.mem (.abs addr)) s)

/-- `SBC (z),Y` (R151). -/
def execSbcZpiy (z : Byte) (s : State) : Out := .next (sbc 0xF1 (.mem (.zpiy z)) s)

/-- `SBC (z)` (R151). -/
def execSbcZpi (z : Byte) (s : State) : Out := .next (sbc 0xF2 (.mem (.zpi z)) s)

/-- `SBC z,X` (R151). -/
def execSbcZpx (z : Byte) (s : State) : Out := .next (sbc 0xF5 (.mem (.zpx z)) s)

/-- `SBC a,Y` (R151). -/
def execSbcAbsy (addr : Word) (s : State) : Out := .next (sbc 0xF9 (.mem (.absy addr)) s)

/-- `SBC a,X` (R151). -/
def execSbcAbsx (addr : Word) (s : State) : Out := .next (sbc 0xFD (.mem (.absx addr)) s)

/-- `AND (z,X)` (R153). -/
def execAndZpix (z : Byte) (s : State) : Out := .next (transferAlu andCore 0x21 (.mem (.zpix z)) s)

/-- `AND z` (R153). -/
def execAndZp (z : Byte) (s : State) : Out := .next (transferAlu andCore 0x25 (.mem (.zp z)) s)

/-- `AND #i` (R153). -/
def execAndImm (v : Byte) (s : State) : Out := .next (transferAlu andCore 0x29 (.imm v) s)

/-- `AND a` (R153). -/
def execAndAbs (addr : Word) (s : State) : Out := .next (transferAlu andCore 0x2D (.mem (.abs addr)) s)

/-- `AND (z),Y` (R153). -/
def execAndZpiy (z : Byte) (s : State) : Out := .next (transferAlu andCore 0x31 (.mem (.zpiy z)) s)

/-- `AND (z)` (R153). -/
def execAndZpi (z : Byte) (s : State) : Out := .next (transferAlu andCore 0x32 (.mem (.zpi z)) s)

/-- `AND z,X` (R153). -/
def execAndZpx (z : Byte) (s : State) : Out := .next (transferAlu andCore 0x35 (.mem (.zpx z)) s)

/-- `AND a,Y` (R153). -/
def execAndAbsy (addr : Word) (s : State) : Out := .next (transferAlu andCore 0x39 (.mem (.absy addr)) s)

/-- `AND a,X` (R153). -/
def execAndAbsx (addr : Word) (s : State) : Out := .next (transferAlu andCore 0x3D (.mem (.absx addr)) s)

/-- `ORA (z,X)` (R154). -/
def execOraZpix (z : Byte) (s : State) : Out := .next (transferAlu orCore 0x01 (.mem (.zpix z)) s)

/-- `ORA z` (R154). -/
def execOraZp (z : Byte) (s : State) : Out := .next (transferAlu orCore 0x05 (.mem (.zp z)) s)

/-- `ORA #i` (R154). -/
def execOraImm (v : Byte) (s : State) : Out := .next (transferAlu orCore 0x09 (.imm v) s)

/-- `ORA a` (R154). -/
def execOraAbs (addr : Word) (s : State) : Out := .next (transferAlu orCore 0x0D (.mem (.abs addr)) s)

/-- `ORA (z),Y` (R154). -/
def execOraZpiy (z : Byte) (s : State) : Out := .next (transferAlu orCore 0x11 (.mem (.zpiy z)) s)

/-- `ORA (z)` (R154). -/
def execOraZpi (z : Byte) (s : State) : Out := .next (transferAlu orCore 0x12 (.mem (.zpi z)) s)

/-- `ORA z,X` (R154). -/
def execOraZpx (z : Byte) (s : State) : Out := .next (transferAlu orCore 0x15 (.mem (.zpx z)) s)

/-- `ORA a,Y` (R154). -/
def execOraAbsy (addr : Word) (s : State) : Out := .next (transferAlu orCore 0x19 (.mem (.absy addr)) s)

/-- `ORA a,X` (R154). -/
def execOraAbsx (addr : Word) (s : State) : Out := .next (transferAlu orCore 0x1D (.mem (.absx addr)) s)

/-- `EOR (z,X)` (R155). -/
def execEorZpix (z : Byte) (s : State) : Out := .next (transferAlu xorCore 0x41 (.mem (.zpix z)) s)

/-- `EOR z` (R155). -/
def execEorZp (z : Byte) (s : State) : Out := .next (transferAlu xorCore 0x45 (.mem (.zp z)) s)

/-- `EOR #i` (R155). -/
def execEorImm (v : Byte) (s : State) : Out := .next (transferAlu xorCore 0x49 (.imm v) s)

/-- `EOR a` (R155). -/
def execEorAbs (addr : Word) (s : State) : Out := .next (transferAlu xorCore 0x4D (.mem (.abs addr)) s)

/-- `EOR (z),Y` (R155). -/
def execEorZpiy (z : Byte) (s : State) : Out := .next (transferAlu xorCore 0x51 (.mem (.zpiy z)) s)

/-- `EOR (z)` (R155). -/
def execEorZpi (z : Byte) (s : State) : Out := .next (transferAlu xorCore 0x52 (.mem (.zpi z)) s)

/-- `EOR z,X` (R155). -/
def execEorZpx (z : Byte) (s : State) : Out := .next (transferAlu xorCore 0x55 (.mem (.zpx z)) s)

/-- `EOR a,Y` (R155). -/
def execEorAbsy (addr : Word) (s : State) : Out := .next (transferAlu xorCore 0x59 (.mem (.absy addr)) s)

/-- `EOR a,X` (R155). -/
def execEorAbsx (addr : Word) (s : State) : Out := .next (transferAlu xorCore 0x5D (.mem (.absx addr)) s)

/-- `CMP (z,X)` (R160). -/
def execCmpZpix (z : Byte) (s : State) : Out := .next (compareReg .a 0xC1 (.mem (.zpix z)) s)

/-- `CMP z` (R160). -/
def execCmpZp (z : Byte) (s : State) : Out := .next (compareReg .a 0xC5 (.mem (.zp z)) s)

/-- `CMP #i` (R160). -/
def execCmpImm (v : Byte) (s : State) : Out := .next (compareReg .a 0xC9 (.imm v) s)

/-- `CMP a` (R160). -/
def execCmpAbs (addr : Word) (s : State) : Out := .next (compareReg .a 0xCD (.mem (.abs addr)) s)

/-- `CMP (z),Y` (R160). -/
def execCmpZpiy (z : Byte) (s : State) : Out := .next (compareReg .a 0xD1 (.mem (.zpiy z)) s)

/-- `CMP (z)` (R160). -/
def execCmpZpi (z : Byte) (s : State) : Out := .next (compareReg .a 0xD2 (.mem (.zpi z)) s)

/-- `CMP z,X` (R160). -/
def execCmpZpx (z : Byte) (s : State) : Out := .next (compareReg .a 0xD5 (.mem (.zpx z)) s)

/-- `CMP a,Y` (R160). -/
def execCmpAbsy (addr : Word) (s : State) : Out := .next (compareReg .a 0xD9 (.mem (.absy addr)) s)

/-- `CMP a,X` (R160). -/
def execCmpAbsx (addr : Word) (s : State) : Out := .next (compareReg .a 0xDD (.mem (.absx addr)) s)

/-- `CPX #i` (R161). -/
def execCpxImm (v : Byte) (s : State) : Out := .next (compareReg .x 0xE0 (.imm v) s)

/-- `CPX z` (R161). -/
def execCpxZp (z : Byte) (s : State) : Out := .next (compareReg .x 0xE4 (.mem (.zp z)) s)

/-- `CPX a` (R161). -/
def execCpxAbs (addr : Word) (s : State) : Out := .next (compareReg .x 0xEC (.mem (.abs addr)) s)

/-- `CPY #i` (R162). -/
def execCpyImm (v : Byte) (s : State) : Out := .next (compareReg .y 0xC0 (.imm v) s)

/-- `CPY z` (R162). -/
def execCpyZp (z : Byte) (s : State) : Out := .next (compareReg .y 0xC4 (.mem (.zp z)) s)

/-- `CPY a` (R162). -/
def execCpyAbs (addr : Word) (s : State) : Out := .next (compareReg .y 0xCC (.mem (.abs addr)) s)

end Sys2Proof.Machine
end

