-- ==== Sys2Proof/Machine/BlockBank.lean ====
section
/-! DEFINITION. Block transfers, bank-map transfers, video-port stores, clock-speed select (43_block_bank.md R300 to R331): the shared operations, then one meaning an instruction. -/

namespace Sys2Proof.Machine

open Sys2Proof.Config

/-! The pointer of step `k` (R301 to R305), modulo 65536. -/

def up (base : Word) (k : Nat) : Word := base + BitVec.ofNat 16 k

def down (base : Word) (k : Nat) : Word := base - BitVec.ofNat 16 k

def fixed (base : Word) (_ : Nat) : Word := base

def alternate (base : Word) (k : Nat) : Word := base + BitVec.ofNat 16 (k % 2)

/-- `n` steps from step `k`: each one read, then one write (R300). -/
def copyBytes (srcAt dstAt : Nat → Word) : Nat → Nat → State → State
  | 0, _, s => s
  | n + 1, k, s =>
    let v := memRead (srcAt k) s
    copyBytes srcAt dstAt n (k + 1) (memWrite (dstAt k) v.1 v.2)

/-- The five block transfers (R300): the cost `17 + 6 * len` replaces `CYCLES(op)`. -/
def blockTransfer (srcAt dstAt : Nat → Word) (len : Word) (s : State) : State :=
  copyBytes srcAt dstAt len.toNat 0
    (clearT (advance 7 (blockBase + blockPerByte * len.toNat) s))

/-- The eight slots in ascending order (R320, R321). -/
def slots : List (Fin 8) := [0, 1, 2, 3, 4, 5, 6, 7]

/-- TAM on one slot: written if its mask bit is set (R320). -/
def bankStep (mask v : Byte) (s : State) (i : Fin 8) : State :=
  if mask.getLsbD i then writeMpr i v s else s

/-- TAM (R320). -/
def toBanks (op : Byte) (mask : Byte) (s : State) : State :=
  slots.foldl (bankStep mask s.a) (clearT (start op 2 s))

/-- TMA (R321): the highest selected register is the one left in A; none leaves A (D20; log 25). -/
def selectMpr (mask : Byte) (mpr : Vector Byte 8) (a : Byte) : Byte :=
  slots.foldl (fun v (i : Fin 8) => if mask.getLsbD i then mpr.get i else v) a

def fromBanks (op : Byte) (mask : Byte) (s : State) : State :=
  let s1 := clearT (start op 2 s)
  s1.set .a (selectMpr mask s1.mpr s1.a)

/-- ST0, ST1, ST2 (R325 to R327): straight to the I/O handler, whatever the page tables hold (D26; log 27). -/
def portStore (port : Word) (op : Byte) (v : Byte) (s : State) : State :=
  ioWrite port v (clearT (start op 2 s))

/-- `TII s,d,l` (R301). -/
def execTii (src : Word) (dst : Word) (len : Word) (s : State) : Out := .next (blockTransfer (up src) (up dst) len s)

/-- `TDD s,d,l` (R302). -/
def execTdd (src : Word) (dst : Word) (len : Word) (s : State) : Out := .next (blockTransfer (down src) (down dst) len s)

/-- `TIN s,d,l` (R303). -/
def execTin (src : Word) (dst : Word) (len : Word) (s : State) : Out := .next (blockTransfer (up src) (fixed dst) len s)

/-- `TIA s,d,l` (R304). -/
def execTia (src : Word) (dst : Word) (len : Word) (s : State) : Out := .next (blockTransfer (up src) (alternate dst) len s)

/-- `TAI s,d,l` (R305). -/
def execTai (src : Word) (dst : Word) (len : Word) (s : State) : Out := .next (blockTransfer (alternate src) (up dst) len s)

/-- `TAM #i` (R320). -/
def execTam (v : Byte) (s : State) : Out := .next (toBanks 0x53 v s)

/-- `TMA #i` (R321). -/
def execTma (v : Byte) (s : State) : Out := .next (fromBanks 0x43 v s)

/-- `ST0 #i` (R325). -/
def execSt0 (v : Byte) (s : State) : Out := .next (portStore 0x0000 0x03 v s)

/-- `ST1 #i` (R326). -/
def execSt1 (v : Byte) (s : State) : Out := .next (portStore 0x0002 0x13 v s)

/-- `ST2 #i` (R327). -/
def execSt2 (v : Byte) (s : State) : Out := .next (portStore 0x0003 0x23 v s)

/-- `CSL` (R330). -/
def execCsl (s : State) : Out := .next (clearT (start 0x54 1 s))

/-- `CSH` (R331). -/
def execCsh (s : State) : Out := .next (clearT (start 0xD4 1 s))

end Sys2Proof.Machine
end

