-- ==== Sys2Proof/Machine/Control.lean ====
section
/-! DEFINITION. Branches, jumps, calls, returns, BRK and RTI (42_control.md R250 to R270): the shared operations, then one meaning an instruction. -/

namespace Sys2Proof.Machine

open Sys2Proof.Config

/-- A displacement taken from the PC of the next instruction, with `BRANCH_EXTRA` (R250). -/
def takeBranch (rel : Int) (s : State) : State :=
  addCost branchExtra (s.withPc (branchTarget s.pc rel))

/-- The eight conditional branches (R250): taken when the flag has the wanted value. -/
def branchIf (f : Flag) (want : Bool) (op : Byte) (rel : Int) (s : State) : State :=
  let s1 := clearT (start op 2 s)
  if flag s1.p f = want then takeBranch rel s1 else s1

/-- BRA (R259): a fixed cost, no extra. -/
def branchAlways (op : Byte) (rel : Int) (s : State) : State :=
  let s1 := clearT (start op 2 s)
  s1.withPc (branchTarget s1.pc rel)

/-- BBRn and BBSn (R260, R261): bit `n` of the zero-page byte has the wanted value. -/
def branchBit (n : Nat) (want : Bool) (op : Byte) (z : Byte) (rel : Int) (s : State) : State :=
  let s1 := clearT (start op 3 s)
  if (zpRead z s1).getLsbD n = want then takeBranch rel s1 else s1

/-- BSR (R262): the address of its last byte pushed. -/
def callRel (op : Byte) (rel : Int) (s : State) : State :=
  let s1 := push16 (s.pc + 1) (clearT (start op 2 s))
  s1.withPc (branchTarget s1.pc rel)

/-- JSR (R266): the address of its last byte pushed. -/
def callAbs (op : Byte) (addr : Word) (s : State) : State :=
  (push16 (s.pc + 2) (clearT (start op 3 s))).withPc addr

/-- JMP absolute (R263). -/
def jump (op : Byte) (addr : Word) (s : State) : State :=
  clearT ((start op 3 s).withPc addr)

/-- JMP through a pointer (R264, R265). -/
def jumpIndirect (op : Byte) (len : Nat) (ptr : Word) (s : State) : State :=
  let t := memRead16 ptr (start op len s)
  clearT (t.2.withPc t.1)

/-- RTS (R267). -/
def returnSub (op : Byte) (s : State) : State :=
  let t := pull16 (start op 1 s)
  clearT (t.2.withPc (t.1 + 1))

/-- BRK (R268): T cleared, `PC + 2` and `P OR $10` pushed, D cleared, I set, the IRQ2/BRK vector (D4, D18; log 24). -/
def softwareInterrupt (op : Byte) (s : State) : State :=
  let s1 := clearT (start op 1 s)
  takeInterrupt (s.pc + 2) (setFlag s1.p .b true) true (vectorOf .irq2) s1

/-- RTI (R269): T as pulled. -/
def returnInterrupt (op : Byte) (s : State) : State := returnFromInterrupt (start op 1 s)

/-- `BPL r` (R251). -/
def execBpl (rel : Int) (s : State) : Out := .next (branchIf .n false 0x10 rel s)

/-- `BMI r` (R252). -/
def execBmi (rel : Int) (s : State) : Out := .next (branchIf .n true 0x30 rel s)

/-- `BVC r` (R253). -/
def execBvc (rel : Int) (s : State) : Out := .next (branchIf .v false 0x50 rel s)

/-- `BVS r` (R254). -/
def execBvs (rel : Int) (s : State) : Out := .next (branchIf .v true 0x70 rel s)

/-- `BCC r` (R255). -/
def execBcc (rel : Int) (s : State) : Out := .next (branchIf .c false 0x90 rel s)

/-- `BCS r` (R256). -/
def execBcs (rel : Int) (s : State) : Out := .next (branchIf .c true 0xB0 rel s)

/-- `BNE r` (R257). -/
def execBne (rel : Int) (s : State) : Out := .next (branchIf .z false 0xD0 rel s)

/-- `BEQ r` (R258). -/
def execBeq (rel : Int) (s : State) : Out := .next (branchIf .z true 0xF0 rel s)

/-- `BRA r` (R259). -/
def execBra (rel : Int) (s : State) : Out := .next (branchAlways 0x80 rel s)

/-- `BBR0 z,r` (R260). -/
def execBbr0 (z : Byte) (rel : Int) (s : State) : Out := .next (branchBit 0 false 0x0F z rel s)

/-- `BBR1 z,r` (R260). -/
def execBbr1 (z : Byte) (rel : Int) (s : State) : Out := .next (branchBit 1 false 0x1F z rel s)

/-- `BBR2 z,r` (R260). -/
def execBbr2 (z : Byte) (rel : Int) (s : State) : Out := .next (branchBit 2 false 0x2F z rel s)

/-- `BBR3 z,r` (R260). -/
def execBbr3 (z : Byte) (rel : Int) (s : State) : Out := .next (branchBit 3 false 0x3F z rel s)

/-- `BBR4 z,r` (R260). -/
def execBbr4 (z : Byte) (rel : Int) (s : State) : Out := .next (branchBit 4 false 0x4F z rel s)

/-- `BBR5 z,r` (R260). -/
def execBbr5 (z : Byte) (rel : Int) (s : State) : Out := .next (branchBit 5 false 0x5F z rel s)

/-- `BBR6 z,r` (R260). -/
def execBbr6 (z : Byte) (rel : Int) (s : State) : Out := .next (branchBit 6 false 0x6F z rel s)

/-- `BBR7 z,r` (R260). -/
def execBbr7 (z : Byte) (rel : Int) (s : State) : Out := .next (branchBit 7 false 0x7F z rel s)

/-- `BBS0 z,r` (R261). -/
def execBbs0 (z : Byte) (rel : Int) (s : State) : Out := .next (branchBit 0 true 0x8F z rel s)

/-- `BBS1 z,r` (R261). -/
def execBbs1 (z : Byte) (rel : Int) (s : State) : Out := .next (branchBit 1 true 0x9F z rel s)

/-- `BBS2 z,r` (R261). -/
def execBbs2 (z : Byte) (rel : Int) (s : State) : Out := .next (branchBit 2 true 0xAF z rel s)

/-- `BBS3 z,r` (R261). -/
def execBbs3 (z : Byte) (rel : Int) (s : State) : Out := .next (branchBit 3 true 0xBF z rel s)

/-- `BBS4 z,r` (R261). -/
def execBbs4 (z : Byte) (rel : Int) (s : State) : Out := .next (branchBit 4 true 0xCF z rel s)

/-- `BBS5 z,r` (R261). -/
def execBbs5 (z : Byte) (rel : Int) (s : State) : Out := .next (branchBit 5 true 0xDF z rel s)

/-- `BBS6 z,r` (R261). -/
def execBbs6 (z : Byte) (rel : Int) (s : State) : Out := .next (branchBit 6 true 0xEF z rel s)

/-- `BBS7 z,r` (R261). -/
def execBbs7 (z : Byte) (rel : Int) (s : State) : Out := .next (branchBit 7 true 0xFF z rel s)

/-- `BSR r` (R262). -/
def execBsr (rel : Int) (s : State) : Out := .next (callRel 0x44 rel s)

/-- `JMP a` (R263). -/
def execJmpAbs (addr : Word) (s : State) : Out := .next (jump 0x4C addr s)

/-- `JMP (a)` (R264). -/
def execJmpInd (addr : Word) (s : State) : Out := .next (jumpIndirect 0x6C 3 addr s)

/-- `JMP (a,X)` (R265). -/
def execJmpIndx (addr : Word) (s : State) : Out := .next (jumpIndirect 0x7C 3 (addr + zext s.x) s)

/-- `JSR a` (R266). -/
def execJsr (addr : Word) (s : State) : Out := .next (callAbs 0x20 addr s)

/-- `RTS` (R267). -/
def execRts (s : State) : Out := .next (returnSub 0x60 s)

/-- `BRK` (R268). -/
def execBrk (s : State) : Out := .next (softwareInterrupt 0x00 s)

/-- `RTI` (R269). -/
def execRti (s : State) : Out := .next (returnInterrupt 0x40 s)

end Sys2Proof.Machine
end

