-- ==== Sys2Proof/Machine/LoadStore.lean ====
section
/-! DEFINITION. Loads, stores, transfers, swaps, clears, stack, flags, SET, NOP and undefined opcodes (44_load_store_misc.md R340 to R385): the shared operations, then one meaning an instruction. -/

namespace Sys2Proof.Machine

open Sys2Proof.Config

/-- LDA, LDX, LDY (R340 to R342). -/
def load (r : Reg) (op : Byte) (m : Src) (s : State) : State :=
  let v := operand m (start op m.length s)
  (v.2.withP (setNZ v.1 v.2.p)).set r v.1

/-- STA, STX, STY, STZ (R345 to R348): no data read. -/
def store (v : Byte) (op : Byte) (m : Mode) (s : State) : State :=
  let s1 := start op m.length s
  writeLoc (m.loc s1) v (clearT s1)

/-- TAX, TXA, TAY, TYA, TSX (R350 to R354). -/
def transfer (src dst : Reg) (op : Byte) (s : State) : State :=
  let s1 := start op 1 s
  (s1.withP (setNZ (s1.get src) s1.p)).set dst (s1.get src)

/-- SXY, SAX, SAY (R356 to R358). -/
def swap (r q : Reg) (op : Byte) (s : State) : State :=
  clearT (((start op 1 s).set r (s.get q)).set q (s.get r))

/-- CLA, CLX, CLY (R359 to R361): Z is not set. -/
def clearReg (r : Reg) (op : Byte) (s : State) : State :=
  clearT ((start op 1 s).set r 0x00)

/-- PHA, PHX, PHY (R362, R364, R365). -/
def pushReg (r : Reg) (op : Byte) (s : State) : State := push (s.get r) (clearT (start op 1 s))

/-- PHP (R363): T cleared first, B as it stands (D19; log 25). -/
def pushP (op : Byte) (s : State) : State :=
  let s1 := clearT (start op 1 s)
  push s1.p s1

/-- PLA, PLX, PLY (R366, R368, R369). -/
def pullReg (r : Reg) (op : Byte) (s : State) : State :=
  let v := pull (start op 1 s)
  (v.2.withP (setNZ v.1 v.2.p)).set r v.1

/-- PLP (R367): all eight bits as pulled. -/
def pullP (op : Byte) (s : State) : State :=
  let v := pull (start op 1 s)
  v.2.withP v.1

/-- CLC, SEC, CLI, SEI, CLD, SED, CLV (R370 to R376). -/
def writeFlag (f : Flag) (v : Bool) (op : Byte) (s : State) : State :=
  clearT ((start op 1 s).putFlag f v)

/-- The cost of an undefined opcode under `UNDEFINED_POLICY = nop` (R140, R385). -/
def undefinedNopCost : Nat := 2

/-- The 22 undefined opcodes (R385) under either policy (D5; log 15). -/
def undefinedOpcode (op : Byte) (s : State) : State :=
  match undefinedPolicy with
  | .halt => halt op s
  | .nop => clearT (advance 1 undefinedNopCost s)

/-- `LDA (z,X)` (R340). -/
def execLdaZpix (z : Byte) (s : State) : Out := .next (load .a 0xA1 (.mem (.zpix z)) s)

/-- `LDA z` (R340). -/
def execLdaZp (z : Byte) (s : State) : Out := .next (load .a 0xA5 (.mem (.zp z)) s)

/-- `LDA #i` (R340). -/
def execLdaImm (v : Byte) (s : State) : Out := .next (load .a 0xA9 (.imm v) s)

/-- `LDA a` (R340). -/
def execLdaAbs (addr : Word) (s : State) : Out := .next (load .a 0xAD (.mem (.abs addr)) s)

/-- `LDA (z),Y` (R340). -/
def execLdaZpiy (z : Byte) (s : State) : Out := .next (load .a 0xB1 (.mem (.zpiy z)) s)

/-- `LDA (z)` (R340). -/
def execLdaZpi (z : Byte) (s : State) : Out := .next (load .a 0xB2 (.mem (.zpi z)) s)

/-- `LDA z,X` (R340). -/
def execLdaZpx (z : Byte) (s : State) : Out := .next (load .a 0xB5 (.mem (.zpx z)) s)

/-- `LDA a,Y` (R340). -/
def execLdaAbsy (addr : Word) (s : State) : Out := .next (load .a 0xB9 (.mem (.absy addr)) s)

/-- `LDA a,X` (R340). -/
def execLdaAbsx (addr : Word) (s : State) : Out := .next (load .a 0xBD (.mem (.absx addr)) s)

/-- `LDX #i` (R341). -/
def execLdxImm (v : Byte) (s : State) : Out := .next (load .x 0xA2 (.imm v) s)

/-- `LDX z` (R341). -/
def execLdxZp (z : Byte) (s : State) : Out := .next (load .x 0xA6 (.mem (.zp z)) s)

/-- `LDX a` (R341). -/
def execLdxAbs (addr : Word) (s : State) : Out := .next (load .x 0xAE (.mem (.abs addr)) s)

/-- `LDX z,Y` (R341). -/
def execLdxZpy (z : Byte) (s : State) : Out := .next (load .x 0xB6 (.mem (.zpy z)) s)

/-- `LDX a,Y` (R341). -/
def execLdxAbsy (addr : Word) (s : State) : Out := .next (load .x 0xBE (.mem (.absy addr)) s)

/-- `LDY #i` (R342). -/
def execLdyImm (v : Byte) (s : State) : Out := .next (load .y 0xA0 (.imm v) s)

/-- `LDY z` (R342). -/
def execLdyZp (z : Byte) (s : State) : Out := .next (load .y 0xA4 (.mem (.zp z)) s)

/-- `LDY a` (R342). -/
def execLdyAbs (addr : Word) (s : State) : Out := .next (load .y 0xAC (.mem (.abs addr)) s)

/-- `LDY z,X` (R342). -/
def execLdyZpx (z : Byte) (s : State) : Out := .next (load .y 0xB4 (.mem (.zpx z)) s)

/-- `LDY a,X` (R342). -/
def execLdyAbsx (addr : Word) (s : State) : Out := .next (load .y 0xBC (.mem (.absx addr)) s)

/-- `STA (z,X)` (R345). -/
def execStaZpix (z : Byte) (s : State) : Out := .next (store s.a 0x81 (.zpix z) s)

/-- `STA z` (R345). -/
def execStaZp (z : Byte) (s : State) : Out := .next (store s.a 0x85 (.zp z) s)

/-- `STA a` (R345). -/
def execStaAbs (addr : Word) (s : State) : Out := .next (store s.a 0x8D (.abs addr) s)

/-- `STA (z),Y` (R345). -/
def execStaZpiy (z : Byte) (s : State) : Out := .next (store s.a 0x91 (.zpiy z) s)

/-- `STA (z)` (R345). -/
def execStaZpi (z : Byte) (s : State) : Out := .next (store s.a 0x92 (.zpi z) s)

/-- `STA z,X` (R345). -/
def execStaZpx (z : Byte) (s : State) : Out := .next (store s.a 0x95 (.zpx z) s)

/-- `STA a,Y` (R345). -/
def execStaAbsy (addr : Word) (s : State) : Out := .next (store s.a 0x99 (.absy addr) s)

/-- `STA a,X` (R345). -/
def execStaAbsx (addr : Word) (s : State) : Out := .next (store s.a 0x9D (.absx addr) s)

/-- `STX z` (R346). -/
def execStxZp (z : Byte) (s : State) : Out := .next (store s.x 0x86 (.zp z) s)

/-- `STX a` (R346). -/
def execStxAbs (addr : Word) (s : State) : Out := .next (store s.x 0x8E (.abs addr) s)

/-- `STX z,Y` (R346). -/
def execStxZpy (z : Byte) (s : State) : Out := .next (store s.x 0x96 (.zpy z) s)

/-- `STY z` (R347). -/
def execStyZp (z : Byte) (s : State) : Out := .next (store s.y 0x84 (.zp z) s)

/-- `STY a` (R347). -/
def execStyAbs (addr : Word) (s : State) : Out := .next (store s.y 0x8C (.abs addr) s)

/-- `STY z,X` (R347). -/
def execStyZpx (z : Byte) (s : State) : Out := .next (store s.y 0x94 (.zpx z) s)

/-- `STZ z` (R348). -/
def execStzZp (z : Byte) (s : State) : Out := .next (store 0x00 0x64 (.zp z) s)

/-- `STZ z,X` (R348). -/
def execStzZpx (z : Byte) (s : State) : Out := .next (store 0x00 0x74 (.zpx z) s)

/-- `STZ a` (R348). -/
def execStzAbs (addr : Word) (s : State) : Out := .next (store 0x00 0x9C (.abs addr) s)

/-- `STZ a,X` (R348). -/
def execStzAbsx (addr : Word) (s : State) : Out := .next (store 0x00 0x9E (.absx addr) s)

/-- `TAX` (R350). -/
def execTax (s : State) : Out := .next (transfer .a .x 0xAA s)

/-- `TXA` (R351). -/
def execTxa (s : State) : Out := .next (transfer .x .a 0x8A s)

/-- `TAY` (R352). -/
def execTay (s : State) : Out := .next (transfer .a .y 0xA8 s)

/-- `TYA` (R353). -/
def execTya (s : State) : Out := .next (transfer .y .a 0x98 s)

/-- `TSX` (R354). -/
def execTsx (s : State) : Out := .next (transfer .s .x 0xBA s)

/-- `TXS` (R355). -/
def execTxs (s : State) : Out := .next (clearT ((start 0x9A 1 s).set .s s.x))

/-- `SXY` (R356). -/
def execSxy (s : State) : Out := .next (swap .x .y 0x02 s)

/-- `SAX` (R357). -/
def execSax (s : State) : Out := .next (swap .a .x 0x22 s)

/-- `SAY` (R358). -/
def execSay (s : State) : Out := .next (swap .a .y 0x42 s)

/-- `CLA` (R359). -/
def execCla (s : State) : Out := .next (clearReg .a 0x62 s)

/-- `CLX` (R360). -/
def execClx (s : State) : Out := .next (clearReg .x 0x82 s)

/-- `CLY` (R361). -/
def execCly (s : State) : Out := .next (clearReg .y 0xC2 s)

/-- `PHA` (R362). -/
def execPha (s : State) : Out := .next (pushReg .a 0x48 s)

/-- `PHP` (R363). -/
def execPhp (s : State) : Out := .next (pushP 0x08 s)

/-- `PHX` (R364). -/
def execPhx (s : State) : Out := .next (pushReg .x 0xDA s)

/-- `PHY` (R365). -/
def execPhy (s : State) : Out := .next (pushReg .y 0x5A s)

/-- `PLA` (R366). -/
def execPla (s : State) : Out := .next (pullReg .a 0x68 s)

/-- `PLP` (R367). -/
def execPlp (s : State) : Out := .next (pullP 0x28 s)

/-- `PLX` (R368). -/
def execPlx (s : State) : Out := .next (pullReg .x 0xFA s)

/-- `PLY` (R369). -/
def execPly (s : State) : Out := .next (pullReg .y 0x7A s)

/-- `CLC` (R370). -/
def execClc (s : State) : Out := .next (writeFlag .c false 0x18 s)

/-- `SEC` (R371). -/
def execSec (s : State) : Out := .next (writeFlag .c true 0x38 s)

/-- `CLI` (R372). -/
def execCli (s : State) : Out := .next (writeFlag .i false 0x58 s)

/-- `SEI` (R373). -/
def execSei (s : State) : Out := .next (writeFlag .i true 0x78 s)

/-- `CLD` (R374). -/
def execCld (s : State) : Out := .next (writeFlag .d false 0xD8 s)

/-- `SED` (R375). -/
def execSed (s : State) : Out := .next (writeFlag .d true 0xF8 s)

/-- `CLV` (R376). -/
def execClv (s : State) : Out := .next (writeFlag .v false 0xB8 s)

/-- `SET` (R380). -/
def execSet (s : State) : Out := .next ((start 0xF4 1 s).putFlag .t true)

/-- `NOP` (R381). -/
def execNop (s : State) : Out := .next (clearT (start 0xEA 1 s))

/-- undefined $0B (R385). -/
def execUndef0B (s : State) : Out := .next (undefinedOpcode 0x0B s)

/-- undefined $1B (R385). -/
def execUndef1B (s : State) : Out := .next (undefinedOpcode 0x1B s)

/-- undefined $2B (R385). -/
def execUndef2B (s : State) : Out := .next (undefinedOpcode 0x2B s)

/-- undefined $33 (R385). -/
def execUndef33 (s : State) : Out := .next (undefinedOpcode 0x33 s)

/-- undefined $3B (R385). -/
def execUndef3B (s : State) : Out := .next (undefinedOpcode 0x3B s)

/-- undefined $4B (R385). -/
def execUndef4B (s : State) : Out := .next (undefinedOpcode 0x4B s)

/-- undefined $5B (R385). -/
def execUndef5B (s : State) : Out := .next (undefinedOpcode 0x5B s)

/-- undefined $5C (R385). -/
def execUndef5C (s : State) : Out := .next (undefinedOpcode 0x5C s)

/-- undefined $63 (R385). -/
def execUndef63 (s : State) : Out := .next (undefinedOpcode 0x63 s)

/-- undefined $6B (R385). -/
def execUndef6B (s : State) : Out := .next (undefinedOpcode 0x6B s)

/-- undefined $7B (R385). -/
def execUndef7B (s : State) : Out := .next (undefinedOpcode 0x7B s)

/-- undefined $8B (R385). -/
def execUndef8B (s : State) : Out := .next (undefinedOpcode 0x8B s)

/-- undefined $9B (R385). -/
def execUndef9B (s : State) : Out := .next (undefinedOpcode 0x9B s)

/-- undefined $AB (R385). -/
def execUndefAB (s : State) : Out := .next (undefinedOpcode 0xAB s)

/-- undefined $BB (R385). -/
def execUndefBB (s : State) : Out := .next (undefinedOpcode 0xBB s)

/-- undefined $CB (R385). -/
def execUndefCB (s : State) : Out := .next (undefinedOpcode 0xCB s)

/-- undefined $DB (R385). -/
def execUndefDB (s : State) : Out := .next (undefinedOpcode 0xDB s)

/-- undefined $DC (R385). -/
def execUndefDC (s : State) : Out := .next (undefinedOpcode 0xDC s)

/-- undefined $E2 (R385). -/
def execUndefE2 (s : State) : Out := .next (undefinedOpcode 0xE2 s)

/-- undefined $EB (R385). -/
def execUndefEB (s : State) : Out := .next (undefinedOpcode 0xEB s)

/-- undefined $FB (R385). -/
def execUndefFB (s : State) : Out := .next (undefinedOpcode 0xFB s)

/-- undefined $FC (R385). -/
def execUndefFC (s : State) : Out := .next (undefinedOpcode 0xFC s)

end Sys2Proof.Machine
end

