-- ==== Sys2Proof/Machine/ShiftBit.lean ====
section
/-! DEFINITION. Shifts, rotates, increments, bit test and bit modify (41_shift_bit.md R200 to R216): the shared operations, then one meaning an instruction. -/

namespace Sys2Proof.Machine

open Sys2Proof.Config

/-- A register modified in place. -/
def modifyReg (f : Byte → Byte → Result) (reg : Reg) (op : Byte) (s : State) : State :=
  let s1 := start op 1 s
  let r := f (s1.get reg) s1.p
  (s1.withP r.p).set reg r.val

/-- Read-modify-write: one read, then one write of the same location (R86). -/
def modifyMem (f : Byte → Byte → Result) (op : Byte) (m : Mode) (s : State) : State :=
  let s1 := start op m.length s
  let loc := m.loc s1
  let v := readLoc loc s1
  let r := f v.1 v.2.p
  writeLoc loc r.val (v.2.withP r.p)

/-- BIT (R210). -/
def bitTest (op : Byte) (m : Src) (s : State) : State :=
  let b := operand m (start op m.length s)
  b.2.withP (bitFlags b.2.a b.1 b.2.p)

/-- TST (R211): one byte longer than the mode's own format, for the immediate mask. -/
def maskTest (mask : Byte) (op : Byte) (m : Mode) (s : State) : State :=
  let s1 := start op (m.length + 1) s
  let v := readLoc (m.loc s1) s1
  v.2.withP (bitFlags mask v.1 v.2.p)

/-- RMBn and SMBn (R215, R216): a zero-page byte modified, T the only flag. -/
def modifyBit (f : Byte → Byte) (op : Byte) (z : Byte) (s : State) : State :=
  let s1 := clearT (start op 2 s)
  zpWrite z (f (zpRead z s1)) s1

/-- `ASL z` (R200). -/
def execAslZp (z : Byte) (s : State) : Out := .next (modifyMem aslCore 0x06 (.zp z) s)

/-- `ASL A` (R200). -/
def execAslAcc (s : State) : Out := .next (modifyReg aslCore .a 0x0A s)

/-- `ASL a` (R200). -/
def execAslAbs (addr : Word) (s : State) : Out := .next (modifyMem aslCore 0x0E (.abs addr) s)

/-- `ASL z,X` (R200). -/
def execAslZpx (z : Byte) (s : State) : Out := .next (modifyMem aslCore 0x16 (.zpx z) s)

/-- `ASL a,X` (R200). -/
def execAslAbsx (addr : Word) (s : State) : Out := .next (modifyMem aslCore 0x1E (.absx addr) s)

/-- `LSR z` (R201). -/
def execLsrZp (z : Byte) (s : State) : Out := .next (modifyMem lsrCore 0x46 (.zp z) s)

/-- `LSR A` (R201). -/
def execLsrAcc (s : State) : Out := .next (modifyReg lsrCore .a 0x4A s)

/-- `LSR a` (R201). -/
def execLsrAbs (addr : Word) (s : State) : Out := .next (modifyMem lsrCore 0x4E (.abs addr) s)

/-- `LSR z,X` (R201). -/
def execLsrZpx (z : Byte) (s : State) : Out := .next (modifyMem lsrCore 0x56 (.zpx z) s)

/-- `LSR a,X` (R201). -/
def execLsrAbsx (addr : Word) (s : State) : Out := .next (modifyMem lsrCore 0x5E (.absx addr) s)

/-- `ROL z` (R202). -/
def execRolZp (z : Byte) (s : State) : Out := .next (modifyMem rolCore 0x26 (.zp z) s)

/-- `ROL A` (R202). -/
def execRolAcc (s : State) : Out := .next (modifyReg rolCore .a 0x2A s)

/-- `ROL a` (R202). -/
def execRolAbs (addr : Word) (s : State) : Out := .next (modifyMem rolCore 0x2E (.abs addr) s)

/-- `ROL z,X` (R202). -/
def execRolZpx (z : Byte) (s : State) : Out := .next (modifyMem rolCore 0x36 (.zpx z) s)

/-- `ROL a,X` (R202). -/
def execRolAbsx (addr : Word) (s : State) : Out := .next (modifyMem rolCore 0x3E (.absx addr) s)

/-- `ROR z` (R203). -/
def execRorZp (z : Byte) (s : State) : Out := .next (modifyMem rorCore 0x66 (.zp z) s)

/-- `ROR A` (R203). -/
def execRorAcc (s : State) : Out := .next (modifyReg rorCore .a 0x6A s)

/-- `ROR a` (R203). -/
def execRorAbs (addr : Word) (s : State) : Out := .next (modifyMem rorCore 0x6E (.abs addr) s)

/-- `ROR z,X` (R203). -/
def execRorZpx (z : Byte) (s : State) : Out := .next (modifyMem rorCore 0x76 (.zpx z) s)

/-- `ROR a,X` (R203). -/
def execRorAbsx (addr : Word) (s : State) : Out := .next (modifyMem rorCore 0x7E (.absx addr) s)

/-- `INC A` (R204). -/
def execIncAcc (s : State) : Out := .next (modifyReg incCore .a 0x1A s)

/-- `INC z` (R204). -/
def execIncZp (z : Byte) (s : State) : Out := .next (modifyMem incCore 0xE6 (.zp z) s)

/-- `INC a` (R204). -/
def execIncAbs (addr : Word) (s : State) : Out := .next (modifyMem incCore 0xEE (.abs addr) s)

/-- `INC z,X` (R204). -/
def execIncZpx (z : Byte) (s : State) : Out := .next (modifyMem incCore 0xF6 (.zpx z) s)

/-- `INC a,X` (R204). -/
def execIncAbsx (addr : Word) (s : State) : Out := .next (modifyMem incCore 0xFE (.absx addr) s)

/-- `DEC A` (R205). -/
def execDecAcc (s : State) : Out := .next (modifyReg decCore .a 0x3A s)

/-- `DEC z` (R205). -/
def execDecZp (z : Byte) (s : State) : Out := .next (modifyMem decCore 0xC6 (.zp z) s)

/-- `DEC a` (R205). -/
def execDecAbs (addr : Word) (s : State) : Out := .next (modifyMem decCore 0xCE (.abs addr) s)

/-- `DEC z,X` (R205). -/
def execDecZpx (z : Byte) (s : State) : Out := .next (modifyMem decCore 0xD6 (.zpx z) s)

/-- `DEC a,X` (R205). -/
def execDecAbsx (addr : Word) (s : State) : Out := .next (modifyMem decCore 0xDE (.absx addr) s)

/-- `INX` (R206). -/
def execInx (s : State) : Out := .next (modifyReg incCore .x 0xE8 s)

/-- `INY` (R207). -/
def execIny (s : State) : Out := .next (modifyReg incCore .y 0xC8 s)

/-- `DEX` (R208). -/
def execDex (s : State) : Out := .next (modifyReg decCore .x 0xCA s)

/-- `DEY` (R209). -/
def execDey (s : State) : Out := .next (modifyReg decCore .y 0x88 s)

/-- `BIT z` (R210). -/
def execBitZp (z : Byte) (s : State) : Out := .next (bitTest 0x24 (.mem (.zp z)) s)

/-- `BIT a` (R210). -/
def execBitAbs (addr : Word) (s : State) : Out := .next (bitTest 0x2C (.mem (.abs addr)) s)

/-- `BIT z,X` (R210). -/
def execBitZpx (z : Byte) (s : State) : Out := .next (bitTest 0x34 (.mem (.zpx z)) s)

/-- `BIT a,X` (R210). -/
def execBitAbsx (addr : Word) (s : State) : Out := .next (bitTest 0x3C (.mem (.absx addr)) s)

/-- `BIT #i` (R210). -/
def execBitImm (v : Byte) (s : State) : Out := .next (bitTest 0x89 (.imm v) s)

/-- `TST #i,z` (R211). -/
def execTstZp (v : Byte) (z : Byte) (s : State) : Out := .next (maskTest v 0x83 (.zp z) s)

/-- `TST #i,a` (R211). -/
def execTstAbs (v : Byte) (addr : Word) (s : State) : Out := .next (maskTest v 0x93 (.abs addr) s)

/-- `TST #i,z,X` (R211). -/
def execTstZpx (v : Byte) (z : Byte) (s : State) : Out := .next (maskTest v 0xA3 (.zpx z) s)

/-- `TST #i,a,X` (R211). -/
def execTstAbsx (v : Byte) (addr : Word) (s : State) : Out := .next (maskTest v 0xB3 (.absx addr) s)

/-- `TSB z` (R212). -/
def execTsbZp (z : Byte) (s : State) : Out := .next (modifyMem (tsbCore s.a) 0x04 (.zp z) s)

/-- `TSB a` (R212). -/
def execTsbAbs (addr : Word) (s : State) : Out := .next (modifyMem (tsbCore s.a) 0x0C (.abs addr) s)

/-- `TRB z` (R213). -/
def execTrbZp (z : Byte) (s : State) : Out := .next (modifyMem (trbCore s.a) 0x14 (.zp z) s)

/-- `TRB a` (R213). -/
def execTrbAbs (addr : Word) (s : State) : Out := .next (modifyMem (trbCore s.a) 0x1C (.abs addr) s)

/-- `RMB0 z` (R215). -/
def execRmb0 (z : Byte) (s : State) : Out := .next (modifyBit (resetBit 0) 0x07 z s)

/-- `RMB1 z` (R215). -/
def execRmb1 (z : Byte) (s : State) : Out := .next (modifyBit (resetBit 1) 0x17 z s)

/-- `RMB2 z` (R215). -/
def execRmb2 (z : Byte) (s : State) : Out := .next (modifyBit (resetBit 2) 0x27 z s)

/-- `RMB3 z` (R215). -/
def execRmb3 (z : Byte) (s : State) : Out := .next (modifyBit (resetBit 3) 0x37 z s)

/-- `RMB4 z` (R215). -/
def execRmb4 (z : Byte) (s : State) : Out := .next (modifyBit (resetBit 4) 0x47 z s)

/-- `RMB5 z` (R215). -/
def execRmb5 (z : Byte) (s : State) : Out := .next (modifyBit (resetBit 5) 0x57 z s)

/-- `RMB6 z` (R215). -/
def execRmb6 (z : Byte) (s : State) : Out := .next (modifyBit (resetBit 6) 0x67 z s)

/-- `RMB7 z` (R215). -/
def execRmb7 (z : Byte) (s : State) : Out := .next (modifyBit (resetBit 7) 0x77 z s)

/-- `SMB0 z` (R216). -/
def execSmb0 (z : Byte) (s : State) : Out := .next (modifyBit (setBit 0) 0x87 z s)

/-- `SMB1 z` (R216). -/
def execSmb1 (z : Byte) (s : State) : Out := .next (modifyBit (setBit 1) 0x97 z s)

/-- `SMB2 z` (R216). -/
def execSmb2 (z : Byte) (s : State) : Out := .next (modifyBit (setBit 2) 0xA7 z s)

/-- `SMB3 z` (R216). -/
def execSmb3 (z : Byte) (s : State) : Out := .next (modifyBit (setBit 3) 0xB7 z s)

/-- `SMB4 z` (R216). -/
def execSmb4 (z : Byte) (s : State) : Out := .next (modifyBit (setBit 4) 0xC7 z s)

/-- `SMB5 z` (R216). -/
def execSmb5 (z : Byte) (s : State) : Out := .next (modifyBit (setBit 5) 0xD7 z s)

/-- `SMB6 z` (R216). -/
def execSmb6 (z : Byte) (s : State) : Out := .next (modifyBit (setBit 6) 0xE7 z s)

/-- `SMB7 z` (R216). -/
def execSmb7 (z : Byte) (s : State) : Out := .next (modifyBit (setBit 7) 0xF7 z s)

end Sys2Proof.Machine
end

