-- ==== Sys2Proof/Machine/Dispatch.lean ====
section
/-! DEFINITION. One arm a constructor of Instr: the meaning of each instruction. -/

namespace Sys2Proof.Machine

def exec (i : Instr) (s : State) : Host.Outcome State Fault Refusal :=
  match i with
  | .adcZpix z => Sys2Proof.Machine.execAdcZpix z s
  | .adcZp z => Sys2Proof.Machine.execAdcZp z s
  | .adcImm v => Sys2Proof.Machine.execAdcImm v s
  | .adcAbs addr => Sys2Proof.Machine.execAdcAbs addr s
  | .adcZpiy z => Sys2Proof.Machine.execAdcZpiy z s
  | .adcZpi z => Sys2Proof.Machine.execAdcZpi z s
  | .adcZpx z => Sys2Proof.Machine.execAdcZpx z s
  | .adcAbsy addr => Sys2Proof.Machine.execAdcAbsy addr s
  | .adcAbsx addr => Sys2Proof.Machine.execAdcAbsx addr s
  | .sbcZpix z => Sys2Proof.Machine.execSbcZpix z s
  | .sbcZp z => Sys2Proof.Machine.execSbcZp z s
  | .sbcImm v => Sys2Proof.Machine.execSbcImm v s
  | .sbcAbs addr => Sys2Proof.Machine.execSbcAbs addr s
  | .sbcZpiy z => Sys2Proof.Machine.execSbcZpiy z s
  | .sbcZpi z => Sys2Proof.Machine.execSbcZpi z s
  | .sbcZpx z => Sys2Proof.Machine.execSbcZpx z s
  | .sbcAbsy addr => Sys2Proof.Machine.execSbcAbsy addr s
  | .sbcAbsx addr => Sys2Proof.Machine.execSbcAbsx addr s
  | .andZpix z => Sys2Proof.Machine.execAndZpix z s
  | .andZp z => Sys2Proof.Machine.execAndZp z s
  | .andImm v => Sys2Proof.Machine.execAndImm v s
  | .andAbs addr => Sys2Proof.Machine.execAndAbs addr s
  | .andZpiy z => Sys2Proof.Machine.execAndZpiy z s
  | .andZpi z => Sys2Proof.Machine.execAndZpi z s
  | .andZpx z => Sys2Proof.Machine.execAndZpx z s
  | .andAbsy addr => Sys2Proof.Machine.execAndAbsy addr s
  | .andAbsx addr => Sys2Proof.Machine.execAndAbsx addr s
  | .oraZpix z => Sys2Proof.Machine.execOraZpix z s
  | .oraZp z => Sys2Proof.Machine.execOraZp z s
  | .oraImm v => Sys2Proof.Machine.execOraImm v s
  | .oraAbs addr => Sys2Proof.Machine.execOraAbs addr s
  | .oraZpiy z => Sys2Proof.Machine.execOraZpiy z s
  | .oraZpi z => Sys2Proof.Machine.execOraZpi z s
  | .oraZpx z => Sys2Proof.Machine.execOraZpx z s
  | .oraAbsy addr => Sys2Proof.Machine.execOraAbsy addr s
  | .oraAbsx addr => Sys2Proof.Machine.execOraAbsx addr s
  | .eorZpix z => Sys2Proof.Machine.execEorZpix z s
  | .eorZp z => Sys2Proof.Machine.execEorZp z s
  | .eorImm v => Sys2Proof.Machine.execEorImm v s
  | .eorAbs addr => Sys2Proof.Machine.execEorAbs addr s
  | .eorZpiy z => Sys2Proof.Machine.execEorZpiy z s
  | .eorZpi z => Sys2Proof.Machine.execEorZpi z s
  | .eorZpx z => Sys2Proof.Machine.execEorZpx z s
  | .eorAbsy addr => Sys2Proof.Machine.execEorAbsy addr s
  | .eorAbsx addr => Sys2Proof.Machine.execEorAbsx addr s
  | .cmpZpix z => Sys2Proof.Machine.execCmpZpix z s
  | .cmpZp z => Sys2Proof.Machine.execCmpZp z s
  | .cmpImm v => Sys2Proof.Machine.execCmpImm v s
  | .cmpAbs addr => Sys2Proof.Machine.execCmpAbs addr s
  | .cmpZpiy z => Sys2Proof.Machine.execCmpZpiy z s
  | .cmpZpi z => Sys2Proof.Machine.execCmpZpi z s
  | .cmpZpx z => Sys2Proof.Machine.execCmpZpx z s
  | .cmpAbsy addr => Sys2Proof.Machine.execCmpAbsy addr s
  | .cmpAbsx addr => Sys2Proof.Machine.execCmpAbsx addr s
  | .cpxImm v => Sys2Proof.Machine.execCpxImm v s
  | .cpxZp z => Sys2Proof.Machine.execCpxZp z s
  | .cpxAbs addr => Sys2Proof.Machine.execCpxAbs addr s
  | .cpyImm v => Sys2Proof.Machine.execCpyImm v s
  | .cpyZp z => Sys2Proof.Machine.execCpyZp z s
  | .cpyAbs addr => Sys2Proof.Machine.execCpyAbs addr s
  | .aslZp z => Sys2Proof.Machine.execAslZp z s
  | .aslAcc => Sys2Proof.Machine.execAslAcc s
  | .aslAbs addr => Sys2Proof.Machine.execAslAbs addr s
  | .aslZpx z => Sys2Proof.Machine.execAslZpx z s
  | .aslAbsx addr => Sys2Proof.Machine.execAslAbsx addr s
  | .lsrZp z => Sys2Proof.Machine.execLsrZp z s
  | .lsrAcc => Sys2Proof.Machine.execLsrAcc s
  | .lsrAbs addr => Sys2Proof.Machine.execLsrAbs addr s
  | .lsrZpx z => Sys2Proof.Machine.execLsrZpx z s
  | .lsrAbsx addr => Sys2Proof.Machine.execLsrAbsx addr s
  | .rolZp z => Sys2Proof.Machine.execRolZp z s
  | .rolAcc => Sys2Proof.Machine.execRolAcc s
  | .rolAbs addr => Sys2Proof.Machine.execRolAbs addr s
  | .rolZpx z => Sys2Proof.Machine.execRolZpx z s
  | .rolAbsx addr => Sys2Proof.Machine.execRolAbsx addr s
  | .rorZp z => Sys2Proof.Machine.execRorZp z s
  | .rorAcc => Sys2Proof.Machine.execRorAcc s
  | .rorAbs addr => Sys2Proof.Machine.execRorAbs addr s
  | .rorZpx z => Sys2Proof.Machine.execRorZpx z s
  | .rorAbsx addr => Sys2Proof.Machine.execRorAbsx addr s
  | .incAcc => Sys2Proof.Machine.execIncAcc s
  | .incZp z => Sys2Proof.Machine.execIncZp z s
  | .incAbs addr => Sys2Proof.Machine.execIncAbs addr s
  | .incZpx z => Sys2Proof.Machine.execIncZpx z s
  | .incAbsx addr => Sys2Proof.Machine.execIncAbsx addr s
  | .decAcc => Sys2Proof.Machine.execDecAcc s
  | .decZp z => Sys2Proof.Machine.execDecZp z s
  | .decAbs addr => Sys2Proof.Machine.execDecAbs addr s
  | .decZpx z => Sys2Proof.Machine.execDecZpx z s
  | .decAbsx addr => Sys2Proof.Machine.execDecAbsx addr s
  | .inx => Sys2Proof.Machine.execInx s
  | .iny => Sys2Proof.Machine.execIny s
  | .dex => Sys2Proof.Machine.execDex s
  | .dey => Sys2Proof.Machine.execDey s
  | .bitZp z => Sys2Proof.Machine.execBitZp z s
  | .bitAbs addr => Sys2Proof.Machine.execBitAbs addr s
  | .bitZpx z => Sys2Proof.Machine.execBitZpx z s
  | .bitAbsx addr => Sys2Proof.Machine.execBitAbsx addr s
  | .bitImm v => Sys2Proof.Machine.execBitImm v s
  | .tstZp v z => Sys2Proof.Machine.execTstZp v z s
  | .tstAbs v addr => Sys2Proof.Machine.execTstAbs v addr s
  | .tstZpx v z => Sys2Proof.Machine.execTstZpx v z s
  | .tstAbsx v addr => Sys2Proof.Machine.execTstAbsx v addr s
  | .tsbZp z => Sys2Proof.Machine.execTsbZp z s
  | .tsbAbs addr => Sys2Proof.Machine.execTsbAbs addr s
  | .trbZp z => Sys2Proof.Machine.execTrbZp z s
  | .trbAbs addr => Sys2Proof.Machine.execTrbAbs addr s
  | .rmb0 z => Sys2Proof.Machine.execRmb0 z s
  | .rmb1 z => Sys2Proof.Machine.execRmb1 z s
  | .rmb2 z => Sys2Proof.Machine.execRmb2 z s
  | .rmb3 z => Sys2Proof.Machine.execRmb3 z s
  | .rmb4 z => Sys2Proof.Machine.execRmb4 z s
  | .rmb5 z => Sys2Proof.Machine.execRmb5 z s
  | .rmb6 z => Sys2Proof.Machine.execRmb6 z s
  | .rmb7 z => Sys2Proof.Machine.execRmb7 z s
  | .smb0 z => Sys2Proof.Machine.execSmb0 z s
  | .smb1 z => Sys2Proof.Machine.execSmb1 z s
  | .smb2 z => Sys2Proof.Machine.execSmb2 z s
  | .smb3 z => Sys2Proof.Machine.execSmb3 z s
  | .smb4 z => Sys2Proof.Machine.execSmb4 z s
  | .smb5 z => Sys2Proof.Machine.execSmb5 z s
  | .smb6 z => Sys2Proof.Machine.execSmb6 z s
  | .smb7 z => Sys2Proof.Machine.execSmb7 z s
  | .bpl rel => Sys2Proof.Machine.execBpl rel s
  | .bmi rel => Sys2Proof.Machine.execBmi rel s
  | .bvc rel => Sys2Proof.Machine.execBvc rel s
  | .bvs rel => Sys2Proof.Machine.execBvs rel s
  | .bcc rel => Sys2Proof.Machine.execBcc rel s
  | .bcs rel => Sys2Proof.Machine.execBcs rel s
  | .bne rel => Sys2Proof.Machine.execBne rel s
  | .beq rel => Sys2Proof.Machine.execBeq rel s
  | .bra rel => Sys2Proof.Machine.execBra rel s
  | .bbr0 z rel => Sys2Proof.Machine.execBbr0 z rel s
  | .bbr1 z rel => Sys2Proof.Machine.execBbr1 z rel s
  | .bbr2 z rel => Sys2Proof.Machine.execBbr2 z rel s
  | .bbr3 z rel => Sys2Proof.Machine.execBbr3 z rel s
  | .bbr4 z rel => Sys2Proof.Machine.execBbr4 z rel s
  | .bbr5 z rel => Sys2Proof.Machine.execBbr5 z rel s
  | .bbr6 z rel => Sys2Proof.Machine.execBbr6 z rel s
  | .bbr7 z rel => Sys2Proof.Machine.execBbr7 z rel s
  | .bbs0 z rel => Sys2Proof.Machine.execBbs0 z rel s
  | .bbs1 z rel => Sys2Proof.Machine.execBbs1 z rel s
  | .bbs2 z rel => Sys2Proof.Machine.execBbs2 z rel s
  | .bbs3 z rel => Sys2Proof.Machine.execBbs3 z rel s
  | .bbs4 z rel => Sys2Proof.Machine.execBbs4 z rel s
  | .bbs5 z rel => Sys2Proof.Machine.execBbs5 z rel s
  | .bbs6 z rel => Sys2Proof.Machine.execBbs6 z rel s
  | .bbs7 z rel => Sys2Proof.Machine.execBbs7 z rel s
  | .bsr rel => Sys2Proof.Machine.execBsr rel s
  | .jmpAbs addr => Sys2Proof.Machine.execJmpAbs addr s
  | .jmpInd addr => Sys2Proof.Machine.execJmpInd addr s
  | .jmpIndx addr => Sys2Proof.Machine.execJmpIndx addr s
  | .jsr addr => Sys2Proof.Machine.execJsr addr s
  | .rts => Sys2Proof.Machine.execRts s
  | .brk => Sys2Proof.Machine.execBrk s
  | .rti => Sys2Proof.Machine.execRti s
  | .tii src dst len => Sys2Proof.Machine.execTii src dst len s
  | .tdd src dst len => Sys2Proof.Machine.execTdd src dst len s
  | .tin src dst len => Sys2Proof.Machine.execTin src dst len s
  | .tia src dst len => Sys2Proof.Machine.execTia src dst len s
  | .tai src dst len => Sys2Proof.Machine.execTai src dst len s
  | .tam v => Sys2Proof.Machine.execTam v s
  | .tma v => Sys2Proof.Machine.execTma v s
  | .st0 v => Sys2Proof.Machine.execSt0 v s
  | .st1 v => Sys2Proof.Machine.execSt1 v s
  | .st2 v => Sys2Proof.Machine.execSt2 v s
  | .csl => Sys2Proof.Machine.execCsl s
  | .csh => Sys2Proof.Machine.execCsh s
  | .ldaZpix z => Sys2Proof.Machine.execLdaZpix z s
  | .ldaZp z => Sys2Proof.Machine.execLdaZp z s
  | .ldaImm v => Sys2Proof.Machine.execLdaImm v s
  | .ldaAbs addr => Sys2Proof.Machine.execLdaAbs addr s
  | .ldaZpiy z => Sys2Proof.Machine.execLdaZpiy z s
  | .ldaZpi z => Sys2Proof.Machine.execLdaZpi z s
  | .ldaZpx z => Sys2Proof.Machine.execLdaZpx z s
  | .ldaAbsy addr => Sys2Proof.Machine.execLdaAbsy addr s
  | .ldaAbsx addr => Sys2Proof.Machine.execLdaAbsx addr s
  | .ldxImm v => Sys2Proof.Machine.execLdxImm v s
  | .ldxZp z => Sys2Proof.Machine.execLdxZp z s
  | .ldxAbs addr => Sys2Proof.Machine.execLdxAbs addr s
  | .ldxZpy z => Sys2Proof.Machine.execLdxZpy z s
  | .ldxAbsy addr => Sys2Proof.Machine.execLdxAbsy addr s
  | .ldyImm v => Sys2Proof.Machine.execLdyImm v s
  | .ldyZp z => Sys2Proof.Machine.execLdyZp z s
  | .ldyAbs addr => Sys2Proof.Machine.execLdyAbs addr s
  | .ldyZpx z => Sys2Proof.Machine.execLdyZpx z s
  | .ldyAbsx addr => Sys2Proof.Machine.execLdyAbsx addr s
  | .staZpix z => Sys2Proof.Machine.execStaZpix z s
  | .staZp z => Sys2Proof.Machine.execStaZp z s
  | .staAbs addr => Sys2Proof.Machine.execStaAbs addr s
  | .staZpiy z => Sys2Proof.Machine.execStaZpiy z s
  | .staZpi z => Sys2Proof.Machine.execStaZpi z s
  | .staZpx z => Sys2Proof.Machine.execStaZpx z s
  | .staAbsy addr => Sys2Proof.Machine.execStaAbsy addr s
  | .staAbsx addr => Sys2Proof.Machine.execStaAbsx addr s
  | .stxZp z => Sys2Proof.Machine.execStxZp z s
  | .stxAbs addr => Sys2Proof.Machine.execStxAbs addr s
  | .stxZpy z => Sys2Proof.Machine.execStxZpy z s
  | .styZp z => Sys2Proof.Machine.execStyZp z s
  | .styAbs addr => Sys2Proof.Machine.execStyAbs addr s
  | .styZpx z => Sys2Proof.Machine.execStyZpx z s
  | .stzZp z => Sys2Proof.Machine.execStzZp z s
  | .stzZpx z => Sys2Proof.Machine.execStzZpx z s
  | .stzAbs addr => Sys2Proof.Machine.execStzAbs addr s
  | .stzAbsx addr => Sys2Proof.Machine.execStzAbsx addr s
  | .tax => Sys2Proof.Machine.execTax s
  | .txa => Sys2Proof.Machine.execTxa s
  | .tay => Sys2Proof.Machine.execTay s
  | .tya => Sys2Proof.Machine.execTya s
  | .tsx => Sys2Proof.Machine.execTsx s
  | .txs => Sys2Proof.Machine.execTxs s
  | .sxy => Sys2Proof.Machine.execSxy s
  | .sax => Sys2Proof.Machine.execSax s
  | .say => Sys2Proof.Machine.execSay s
  | .cla => Sys2Proof.Machine.execCla s
  | .clx => Sys2Proof.Machine.execClx s
  | .cly => Sys2Proof.Machine.execCly s
  | .pha => Sys2Proof.Machine.execPha s
  | .php => Sys2Proof.Machine.execPhp s
  | .phx => Sys2Proof.Machine.execPhx s
  | .phy => Sys2Proof.Machine.execPhy s
  | .pla => Sys2Proof.Machine.execPla s
  | .plp => Sys2Proof.Machine.execPlp s
  | .plx => Sys2Proof.Machine.execPlx s
  | .ply => Sys2Proof.Machine.execPly s
  | .clc => Sys2Proof.Machine.execClc s
  | .sec => Sys2Proof.Machine.execSec s
  | .cli => Sys2Proof.Machine.execCli s
  | .sei => Sys2Proof.Machine.execSei s
  | .cld => Sys2Proof.Machine.execCld s
  | .sed => Sys2Proof.Machine.execSed s
  | .clv => Sys2Proof.Machine.execClv s
  | .set => Sys2Proof.Machine.execSet s
  | .nop => Sys2Proof.Machine.execNop s
  | .undef0B => Sys2Proof.Machine.execUndef0B s
  | .undef1B => Sys2Proof.Machine.execUndef1B s
  | .undef2B => Sys2Proof.Machine.execUndef2B s
  | .undef33 => Sys2Proof.Machine.execUndef33 s
  | .undef3B => Sys2Proof.Machine.execUndef3B s
  | .undef4B => Sys2Proof.Machine.execUndef4B s
  | .undef5B => Sys2Proof.Machine.execUndef5B s
  | .undef5C => Sys2Proof.Machine.execUndef5C s
  | .undef63 => Sys2Proof.Machine.execUndef63 s
  | .undef6B => Sys2Proof.Machine.execUndef6B s
  | .undef7B => Sys2Proof.Machine.execUndef7B s
  | .undef8B => Sys2Proof.Machine.execUndef8B s
  | .undef9B => Sys2Proof.Machine.execUndef9B s
  | .undefAB => Sys2Proof.Machine.execUndefAB s
  | .undefBB => Sys2Proof.Machine.execUndefBB s
  | .undefCB => Sys2Proof.Machine.execUndefCB s
  | .undefDB => Sys2Proof.Machine.execUndefDB s
  | .undefDC => Sys2Proof.Machine.execUndefDC s
  | .undefE2 => Sys2Proof.Machine.execUndefE2 s
  | .undefEB => Sys2Proof.Machine.execUndefEB s
  | .undefFB => Sys2Proof.Machine.execUndefFB s
  | .undefFC => Sys2Proof.Machine.execUndefFC s

end Sys2Proof.Machine
end

