-- ==== Sys2Proof/Machine/Fetch.lean ====
section
/-! DEFINITION. Fetching an instruction's bytes (30_encoding.md R112, R115; 20_memory.md R93), and laying bytes where
the next fetch reads them (log 8). -/

namespace Sys2Proof.Machine

open Sys2Proof.Config

/-- `n` bytes from `addr` on, in increasing address order, each through `MemRead` (R115). -/
def fetchBytes : Nat → Word → State → List Byte × State
  | 0, _, s => ([], s)
  | n + 1, addr, s =>
    let b := memRead addr s
    let r := fetchBytes n (addr + 1) b.2
    (b.1 :: r.1, r.2)

/-- The instruction at PC: the opcode byte, then exactly `length - 1` operand bytes (R115). -/
def fetch (s : State) : List Byte × State :=
  let op := memRead s.pc s
  let r := fetchBytes (instrLength op.1 - 1) (s.pc + 1) op.2
  (op.1 :: r.1, r.2)

/-- The window `withFetchWord` gives a slot whose read entry is the I/O sentinel (log 8). -/
def loaderWindow (i : Fin 8) : Nat := 0x100 + i

/-- A state whose read entry for `addr` is a buffer. -/
def openSlot (addr : Word) (s : State) : State :=
  match s.pageR.get (slot addr) with
  | .io => { s with pageR := s.pageR.set (slot addr) (.buf (loaderWindow (slot addr))) }
  | .buf _ => s

/-- One byte put where a read of `addr` finds it. -/
def placeByte (addr : Word) (v : Byte) (s : State) : State :=
  let s1 := openSlot addr s
  match readCell addr s1 with
  | some k => writeMem k v s1
  | none => s1

/-- Bytes put from `addr` on. -/
def placeBytes : List Byte → Word → State → State
  | [], _, s => s
  | b :: bs, addr, s => placeBytes bs (addr + 1) (placeByte addr b s)

end Sys2Proof.Machine
end

