-- ==== Sys2Proof/Machine/Loop.lean ====
section
/-! DEFINITION. What one loop iteration does after the instruction (60_exceptions.md R410 to R421): scanline
synchronizer, timer cadence, interrupt check point. -/

namespace Sys2Proof.Machine

open Sys2Proof.Config

/-! ## Pending requests (R57) -/

def Pending.has (q : Pending) : Source → Bool
  | .nmi => q.nmi
  | .irq => q.irq
  | .irq2 => q.irq2
  | .timer => q.timer

def Pending.put (q : Pending) (src : Source) (v : Bool) : Pending :=
  match src with
  | .nmi => { q with nmi := v }
  | .irq => { q with irq := v }
  | .irq2 => { q with irq2 := v }
  | .timer => { q with timer := v }

/-- A request joins `pending` (R401, R412). -/
def request (src : Source) (s : State) : State := { s with pending := s.pending.put src true }

/-! ## Scanline synchronizer (R411) -/

/-- The answer `periodic_callback()` gives now (R401; log 13). -/
def callbackValue (s : State) : CallbackAnswer := s.platform.callbacks.answer (callbackAnswer s.draws)

/-- The callback invoked once: the answer consumed, the host's buffer writes made, the call recorded. -/
def callCallback (s : State) : State :=
  let r := callbackValue s
  { s with platform := { s.platform with callbacks := s.platform.callbacks.rest }, draws := s.draws + 1,
           mem := s.mem.writeAll r.pokes, calls := .callback r.result :: s.calls }

/-- What a callback result does (R401): nothing, a request, or the end of the loop. -/
def applyCallback (r : CallbackResult) (s : State) : State :=
  match r with
  | .none => s
  | .request src => request src s
  | .quit => { s with status := .quit }

/-- R410 step 3: strictly over the budget, one budget is subtracted and the callback runs. Answers whether it ran. -/
def scanlineStep (s : State) : State × Bool :=
  if scanlineBudget < s.scanCycles then
    let s1 := { s with scanCycles := s.scanCycles - scanlineBudget }
    (applyCallback (callbackValue s1).result (callCallback s1), true)
  else (s, false)

/-! ## Timer cadence (R412) -/

/-- The cycles the host's pauses since the last timer check add to `timerDelta`: 0 is no pause (R431; log 35). -/
def pauseValue (s : State) : Nat := s.platform.pauses.answer (pauseAnswer s.draws)

/-- A host pause (R431): `timerDelta` grows by any amount, and the host touches nothing. -/
def hostPause (s : State) : State :=
  { s with timerDelta := s.timerDelta + pauseValue s, draws := s.draws + 1,
           platform := { s.platform with pauses := s.platform.pauses.rest } }

/-- The period `timer_period()` gives now (R412; log 12). -/
def periodValue (s : State) : Nat := s.platform.periods.answer (periodAnswer s.draws)

def callPeriod (s : State) : State :=
  { s with platform := { s.platform with periods := s.platform.periods.rest }, draws := s.draws + 1,
           calls := .timerPeriod (periodValue s) :: s.calls }

/-- What is left of the delta after a firing: one period subtracted, a backlog of a period or more clamped to 0 (R412,
D14; log 23). -/
def clampDelta (delta period : Nat) : Nat :=
  if period ≤ delta - period then 0 else delta - period

/-- R410 step 4: strictly over the period, the timer fires. Answers whether it fired. -/
def timerStep (s : State) : State × Bool :=
  let p := periodValue s
  let s1 := callPeriod s
  if p < s1.timerDelta then
    (request .timer { s1 with timerDelta := clampDelta s1.timerDelta p }, true)
  else (s1, false)

/-! ## Interrupt check point (R413 to R417) -/

def IrqMask.masked (m : IrqMask) : Source → Bool
  | .nmi => false
  | .irq => m.irq
  | .irq2 => m.irq2
  | .timer => m.timer

/-- A maskable source is deliverable iff I = 0 and it is not masked; NMI always is (R414). -/
def deliverable (p : Byte) (m : IrqMask) : Source → Bool
  | .nmi => true
  | .irq => !flag p .i && !m.irq
  | .irq2 => !flag p .i && !m.irq2
  | .timer => !flag p .i && !m.timer

/-- A maskable source is pending, so that the masks are asked for (R400, R414). -/
def anyMaskable (q : Pending) : Bool := q.timer || q.irq || q.irq2

/-- The masks the peripheral reports now (R414; log 14). -/
def maskValue (s : State) : IrqMask := s.platform.masks.answer (maskAnswer s.draws)

/-- `irq_masked(src)` recorded if the source is pending. -/
def recordMask (m : IrqMask) (s : State) (src : Source) : State :=
  if s.pending.has src then record (.irqMasked src (IrqMask.masked m src)) s else s

/-- The masks asked for once a check point, for each pending maskable source (R414). -/
def callMasks (s : State) : State :=
  if anyMaskable s.pending then
    let s1 := { s with platform := { s.platform with masks := s.platform.masks.rest }, draws := s.draws + 1 }
    [Source.timer, Source.irq, Source.irq2].foldl (recordMask (maskValue s)) s1
  else s

/-- Pending maskable sources that are not deliverable are dropped (R414, R415). -/
def dropUndeliverable (p : Byte) (m : IrqMask) (q : Pending) : Pending :=
  { q with timer := q.timer && deliverable p m .timer,
           irq := q.irq && deliverable p m .irq,
           irq2 := q.irq2 && deliverable p m .irq2 }

/-- NMI first, then Timer, IRQ, IRQ2 (R415, D12; log 23). -/
def choose (q : Pending) : Option Source :=
  if q.nmi then some .nmi
  else if q.timer then some .timer
  else if q.irq then some .irq
  else if q.irq2 then some .irq2
  else none

/-- Entry (R417): P pushed as it stands, I set for a maskable source, the entry cost charged (D11; log 22). -/
def enter (src : Source) (s : State) : State :=
  addCost intEntryCycles (takeInterrupt s.pc s.p (src != .nmi) (vectorOf src) s)

/-- `service()` (R415): the dropped removed, at most one source entered. -/
def service (s : State) : State :=
  let m := maskValue s
  let s1 := callMasks s
  let q := dropUndeliverable s1.p m s1.pending
  match choose q with
  | none => { s1 with pending := q }
  | some src => enter src { s1 with pending := q.put src false }

/-- R410 steps 4 and 5, after a scanline step that did not quit. The host's pauses since the last timer check, if any,
are in `timerDelta` when it is compared (R431; log 35). -/
def timerAndService (event : Bool) (s : State) : State :=
  let t := timerStep (hostPause s)
  if event || t.2 then service t.1 else t.1

/-- R410 steps 3 to 5. Nothing follows a halt (R407); Quit ends the iteration at once (D35; log 23). -/
def afterInstr (s : State) : State :=
  match s.status with
  | .running =>
    let c := scanlineStep s
    match c.1.status with
    | .running => timerAndService c.2 c.1
    | .quit => c.1
    | .halted _ _ => c.1
  | .quit => s
  | .halted _ _ => s

end Sys2Proof.Machine
end

