-- ==== Sys2Proof/Machine/Step.lean ====
section
/-! DEFINITION. One loop iteration (60_exceptions.md R410): fetch, decode, execute, then `afterInstr`. -/

namespace Sys2Proof.Machine

/-- One iteration, taken only while the status is Running (R410, R58). -/
def step (s : State) : Host.Outcome State Fault Refusal :=
  match s.status with
  | .running =>
    let f := fetch s
    match decode f.1 with
    | .ok (i, _) =>
      match exec i f.2 with
      | .next t => .next (afterInstr t)
      | .fault r => .fault r
      | .refused r => .refused r
    | .error _ => .refused .undecodable
  | .quit => .fault .loopEnded
  | .halted _ _ => .fault .loopEnded

/-- `s`, running, with the table word's bytes where the next fetch reads them (log 8): a slot that maps the I/O
sentinel for reads is given a buffer, since no byte can be stored behind it. -/
def State.withFetchWord (s : State) (nbits w : Nat) : State :=
  placeBytes (tableBytes nbits w) s.pc { s with status := .running }

end Sys2Proof.Machine
end

