-- ==== Sys2Proof/Safety.lean ====
section
/-! DEFINITION. What counts as a safe run, in the terms the statements use. -/

namespace Sys2Proof.Machine

/-- The undefined opcode bytes, column B of the opcode map and five others (30_encoding.md R140). -/
def undefinedBytes : List Byte :=
  [0x0B, 0x1B, 0x2B, 0x33, 0x3B, 0x4B, 0x5B, 0x5C, 0x63, 0x6B, 0x7B] ++
  [0x8B, 0x9B, 0xAB, 0xBB, 0xCB, 0xDB, 0xDC, 0xE2, 0xEB, 0xFB, 0xFC]

/-- A halted machine still stands at the halting instruction, whose byte is undefined (R385, R407, C18). -/
def HaltInfoTrue (s : State) : Prop :=
  ∀ pc op, s.status = .halted pc op → pc = s.pc ∧ op ∈ undefinedBytes

/-- The invariant of the model: the memory is canonical, and a halt record tells the truth. -/
def State.Inv (s : State) : Prop := s.mem.wf ∧ HaltInfoTrue s

/-- The machine goes on: the step answers a next state. -/
def StepsOn (s : State) : Prop := ∃ t, step s = .next t

/-- The cells holding the bytes from `addr` on are in buffers and hold `bs`: no fetch of them reaches the I/O
handler (R74, R93). -/
def CodeAt (s : State) : Word → List Byte → Prop
  | _, [] => True
  | addr, b :: bs => (∃ k, readCell addr s = some k ∧ s.mem.read k = b) ∧ CodeAt s (addr + 1) bs

end Sys2Proof.Machine
end

