-- ==== Sys2Proof/Certificates/Slice0/Obligations.lean ====
section
/-! DEFINITION. The statements about the model. First the vocabulary: the forms of each instruction as lists (every
form the spec gives it, none shut out), and what flags and memory look like after. Then the obligations. -/

namespace Sys2Proof.Claims

open Sys2Proof.Machine

/-- An instruction with a read operand: its opcode byte and the operand. -/
structure ReadForm where
  i   : Instr
  op  : Byte
  src : Src

/-- An instruction with a memory operand: its opcode byte and the addressing mode. -/
structure MemForm where
  i    : Instr
  op   : Byte
  mode : Mode

/-- An instruction without a memory operand: its opcode byte. -/
structure PlainForm where
  i  : Instr
  op : Byte

/-- An instruction on registers. -/
structure RegForm where
  i   : Instr
  op  : Byte
  src : Reg
  dst : Reg

/-- A shift, rotate, increment or decrement: its opcode byte, its operand (`none` is a register), the result as a
number before reduction mod 256 from the operand and the carry, and what C becomes. -/
structure ModifyForm where
  i    : Instr
  op   : Byte
  reg  : Reg
  mode : Option Mode
  val  : Byte → Nat → Int
  out  : Byte → Bool → Bool

/-- ADC (R150). -/
def adcForms (v z : Byte) (addr : Word) : List ReadForm :=
  [⟨.adcZpix z, 0x61, (.mem (.zpix z))⟩, ⟨.adcZp z, 0x65, (.mem (.zp z))⟩,
   ⟨.adcImm v, 0x69, (.imm v)⟩, ⟨.adcAbs addr, 0x6D, (.mem (.abs addr))⟩,
   ⟨.adcZpiy z, 0x71, (.mem (.zpiy z))⟩, ⟨.adcZpi z, 0x72, (.mem (.zpi z))⟩,
   ⟨.adcZpx z, 0x75, (.mem (.zpx z))⟩, ⟨.adcAbsy addr, 0x79, (.mem (.absy addr))⟩,
   ⟨.adcAbsx addr, 0x7D, (.mem (.absx addr))⟩]

/-- SBC (R151). -/
def sbcForms (v z : Byte) (addr : Word) : List ReadForm :=
  [⟨.sbcZpix z, 0xE1, (.mem (.zpix z))⟩, ⟨.sbcZp z, 0xE5, (.mem (.zp z))⟩,
   ⟨.sbcImm v, 0xE9, (.imm v)⟩, ⟨.sbcAbs addr, 0xED, (.mem (.abs addr))⟩,
   ⟨.sbcZpiy z, 0xF1, (.mem (.zpiy z))⟩, ⟨.sbcZpi z, 0xF2, (.mem (.zpi z))⟩,
   ⟨.sbcZpx z, 0xF5, (.mem (.zpx z))⟩, ⟨.sbcAbsy addr, 0xF9, (.mem (.absy addr))⟩,
   ⟨.sbcAbsx addr, 0xFD, (.mem (.absx addr))⟩]

/-- AND (R153). -/
def andForms (v z : Byte) (addr : Word) : List ReadForm :=
  [⟨.andZpix z, 0x21, (.mem (.zpix z))⟩, ⟨.andZp z, 0x25, (.mem (.zp z))⟩,
   ⟨.andImm v, 0x29, (.imm v)⟩, ⟨.andAbs addr, 0x2D, (.mem (.abs addr))⟩,
   ⟨.andZpiy z, 0x31, (.mem (.zpiy z))⟩, ⟨.andZpi z, 0x32, (.mem (.zpi z))⟩,
   ⟨.andZpx z, 0x35, (.mem (.zpx z))⟩, ⟨.andAbsy addr, 0x39, (.mem (.absy addr))⟩,
   ⟨.andAbsx addr, 0x3D, (.mem (.absx addr))⟩]

/-- ORA (R154). -/
def orForms (v z : Byte) (addr : Word) : List ReadForm :=
  [⟨.oraZpix z, 0x01, (.mem (.zpix z))⟩, ⟨.oraZp z, 0x05, (.mem (.zp z))⟩,
   ⟨.oraImm v, 0x09, (.imm v)⟩, ⟨.oraAbs addr, 0x0D, (.mem (.abs addr))⟩,
   ⟨.oraZpiy z, 0x11, (.mem (.zpiy z))⟩, ⟨.oraZpi z, 0x12, (.mem (.zpi z))⟩,
   ⟨.oraZpx z, 0x15, (.mem (.zpx z))⟩, ⟨.oraAbsy addr, 0x19, (.mem (.absy addr))⟩,
   ⟨.oraAbsx addr, 0x1D, (.mem (.absx addr))⟩]

/-- EOR (R155). -/
def eorForms (v z : Byte) (addr : Word) : List ReadForm :=
  [⟨.eorZpix z, 0x41, (.mem (.zpix z))⟩, ⟨.eorZp z, 0x45, (.mem (.zp z))⟩,
   ⟨.eorImm v, 0x49, (.imm v)⟩, ⟨.eorAbs addr, 0x4D, (.mem (.abs addr))⟩,
   ⟨.eorZpiy z, 0x51, (.mem (.zpiy z))⟩, ⟨.eorZpi z, 0x52, (.mem (.zpi z))⟩,
   ⟨.eorZpx z, 0x55, (.mem (.zpx z))⟩, ⟨.eorAbsy addr, 0x59, (.mem (.absy addr))⟩,
   ⟨.eorAbsx addr, 0x5D, (.mem (.absx addr))⟩]

/-- CMP (R160). -/
def cmpForms (v z : Byte) (addr : Word) : List ReadForm :=
  [⟨.cmpZpix z, 0xC1, (.mem (.zpix z))⟩, ⟨.cmpZp z, 0xC5, (.mem (.zp z))⟩,
   ⟨.cmpImm v, 0xC9, (.imm v)⟩, ⟨.cmpAbs addr, 0xCD, (.mem (.abs addr))⟩,
   ⟨.cmpZpiy z, 0xD1, (.mem (.zpiy z))⟩, ⟨.cmpZpi z, 0xD2, (.mem (.zpi z))⟩,
   ⟨.cmpZpx z, 0xD5, (.mem (.zpx z))⟩, ⟨.cmpAbsy addr, 0xD9, (.mem (.absy addr))⟩,
   ⟨.cmpAbsx addr, 0xDD, (.mem (.absx addr))⟩]

/-- CPX (R161). -/
def cpxForms (v z : Byte) (addr : Word) : List ReadForm :=
  [⟨.cpxImm v, 0xE0, (.imm v)⟩, ⟨.cpxZp z, 0xE4, (.mem (.zp z))⟩,
   ⟨.cpxAbs addr, 0xEC, (.mem (.abs addr))⟩]

/-- CPY (R162). -/
def cpyForms (v z : Byte) (addr : Word) : List ReadForm :=
  [⟨.cpyImm v, 0xC0, (.imm v)⟩, ⟨.cpyZp z, 0xC4, (.mem (.zp z))⟩,
   ⟨.cpyAbs addr, 0xCC, (.mem (.abs addr))⟩]

/-- BIT (R210). -/
def bitForms (v z : Byte) (addr : Word) : List ReadForm :=
  [⟨.bitZp z, 0x24, (.mem (.zp z))⟩, ⟨.bitAbs addr, 0x2C, (.mem (.abs addr))⟩,
   ⟨.bitZpx z, 0x34, (.mem (.zpx z))⟩, ⟨.bitAbsx addr, 0x3C, (.mem (.absx addr))⟩,
   ⟨.bitImm v, 0x89, (.imm v)⟩]

/-- LDA (R340). -/
def ldaForms (v z : Byte) (addr : Word) : List ReadForm :=
  [⟨.ldaZpix z, 0xA1, (.mem (.zpix z))⟩, ⟨.ldaZp z, 0xA5, (.mem (.zp z))⟩,
   ⟨.ldaImm v, 0xA9, (.imm v)⟩, ⟨.ldaAbs addr, 0xAD, (.mem (.abs addr))⟩,
   ⟨.ldaZpiy z, 0xB1, (.mem (.zpiy z))⟩, ⟨.ldaZpi z, 0xB2, (.mem (.zpi z))⟩,
   ⟨.ldaZpx z, 0xB5, (.mem (.zpx z))⟩, ⟨.ldaAbsy addr, 0xB9, (.mem (.absy addr))⟩,
   ⟨.ldaAbsx addr, 0xBD, (.mem (.absx addr))⟩]

/-- LDX (R341). -/
def ldxForms (v z : Byte) (addr : Word) : List ReadForm :=
  [⟨.ldxImm v, 0xA2, (.imm v)⟩, ⟨.ldxZp z, 0xA6, (.mem (.zp z))⟩,
   ⟨.ldxAbs addr, 0xAE, (.mem (.abs addr))⟩, ⟨.ldxZpy z, 0xB6, (.mem (.zpy z))⟩,
   ⟨.ldxAbsy addr, 0xBE, (.mem (.absy addr))⟩]

/-- LDY (R342). -/
def ldyForms (v z : Byte) (addr : Word) : List ReadForm :=
  [⟨.ldyImm v, 0xA0, (.imm v)⟩, ⟨.ldyZp z, 0xA4, (.mem (.zp z))⟩,
   ⟨.ldyAbs addr, 0xAC, (.mem (.abs addr))⟩, ⟨.ldyZpx z, 0xB4, (.mem (.zpx z))⟩,
   ⟨.ldyAbsx addr, 0xBC, (.mem (.absx addr))⟩]

/-- STA (R345). -/
def staForms (z : Byte) (addr : Word) : List MemForm :=
  [⟨.staZpix z, 0x81, (.zpix z)⟩, ⟨.staZp z, 0x85, (.zp z)⟩,
   ⟨.staAbs addr, 0x8D, (.abs addr)⟩, ⟨.staZpiy z, 0x91, (.zpiy z)⟩,
   ⟨.staZpi z, 0x92, (.zpi z)⟩, ⟨.staZpx z, 0x95, (.zpx z)⟩,
   ⟨.staAbsy addr, 0x99, (.absy addr)⟩, ⟨.staAbsx addr, 0x9D, (.absx addr)⟩]

/-- STX (R346). -/
def stxForms (z : Byte) (addr : Word) : List MemForm :=
  [⟨.stxZp z, 0x86, (.zp z)⟩, ⟨.stxAbs addr, 0x8E, (.abs addr)⟩,
   ⟨.stxZpy z, 0x96, (.zpy z)⟩]

/-- STY (R347). -/
def styForms (z : Byte) (addr : Word) : List MemForm :=
  [⟨.styZp z, 0x84, (.zp z)⟩, ⟨.styAbs addr, 0x8C, (.abs addr)⟩,
   ⟨.styZpx z, 0x94, (.zpx z)⟩]

/-- STZ (R348). -/
def stzForms (z : Byte) (addr : Word) : List MemForm :=
  [⟨.stzZp z, 0x64, (.zp z)⟩, ⟨.stzZpx z, 0x74, (.zpx z)⟩,
   ⟨.stzAbs addr, 0x9C, (.abs addr)⟩, ⟨.stzAbsx addr, 0x9E, (.absx addr)⟩]

/-- TSB (R212). -/
def tsbForms (z : Byte) (addr : Word) : List MemForm :=
  [⟨.tsbZp z, 0x04, (.zp z)⟩, ⟨.tsbAbs addr, 0x0C, (.abs addr)⟩]

/-- TRB (R213). -/
def trbForms (z : Byte) (addr : Word) : List MemForm :=
  [⟨.trbZp z, 0x14, (.zp z)⟩, ⟨.trbAbs addr, 0x1C, (.abs addr)⟩]

/-- TST with its mask `v` (R211). -/
def tstForms (v z : Byte) (addr : Word) : List MemForm :=
  [⟨.tstZp v z, 0x83, (.zp z)⟩, ⟨.tstAbs v addr, 0x93, (.abs addr)⟩,
   ⟨.tstZpx v z, 0xA3, (.zpx z)⟩, ⟨.tstAbsx v addr, 0xB3, (.absx addr)⟩]

/-- ASL (R200). -/
def aslForms (z : Byte) (addr : Word) : List ModifyForm :=
  [⟨.aslAcc, 0x0A, .a, none, fun v _ => v.toNat * 2, fun v _ => v.getLsbD 7⟩,
   ⟨.aslZp z, 0x06, .a, some (.zp z), fun v _ => v.toNat * 2, fun v _ => v.getLsbD 7⟩,
   ⟨.aslAbs addr, 0x0E, .a, some (.abs addr), fun v _ => v.toNat * 2, fun v _ => v.getLsbD 7⟩,
   ⟨.aslZpx z, 0x16, .a, some (.zpx z), fun v _ => v.toNat * 2, fun v _ => v.getLsbD 7⟩,
   ⟨.aslAbsx addr, 0x1E, .a, some (.absx addr), fun v _ => v.toNat * 2, fun v _ => v.getLsbD 7⟩]

/-- LSR (R201). -/
def lsrForms (z : Byte) (addr : Word) : List ModifyForm :=
  [⟨.lsrAcc, 0x4A, .a, none, fun v _ => v.toNat / 2, fun v _ => v.getLsbD 0⟩,
   ⟨.lsrZp z, 0x46, .a, some (.zp z), fun v _ => v.toNat / 2, fun v _ => v.getLsbD 0⟩,
   ⟨.lsrAbs addr, 0x4E, .a, some (.abs addr), fun v _ => v.toNat / 2, fun v _ => v.getLsbD 0⟩,
   ⟨.lsrZpx z, 0x56, .a, some (.zpx z), fun v _ => v.toNat / 2, fun v _ => v.getLsbD 0⟩,
   ⟨.lsrAbsx addr, 0x5E, .a, some (.absx addr), fun v _ => v.toNat / 2, fun v _ => v.getLsbD 0⟩]

/-- ROL (R202). -/
def rolForms (z : Byte) (addr : Word) : List ModifyForm :=
  [⟨.rolAcc, 0x2A, .a, none, fun v c => v.toNat * 2 + c, fun v _ => v.getLsbD 7⟩,
   ⟨.rolZp z, 0x26, .a, some (.zp z), fun v c => v.toNat * 2 + c, fun v _ => v.getLsbD 7⟩,
   ⟨.rolAbs addr, 0x2E, .a, some (.abs addr), fun v c => v.toNat * 2 + c, fun v _ => v.getLsbD 7⟩,
   ⟨.rolZpx z, 0x36, .a, some (.zpx z), fun v c => v.toNat * 2 + c, fun v _ => v.getLsbD 7⟩,
   ⟨.rolAbsx addr, 0x3E, .a, some (.absx addr), fun v c => v.toNat * 2 + c, fun v _ => v.getLsbD 7⟩]

/-- ROR (R203). -/
def rorForms (z : Byte) (addr : Word) : List ModifyForm :=
  [⟨.rorAcc, 0x6A, .a, none, fun v c => v.toNat / 2 + c * 128, fun v _ => v.getLsbD 0⟩,
   ⟨.rorZp z, 0x66, .a, some (.zp z), fun v c => v.toNat / 2 + c * 128, fun v _ => v.getLsbD 0⟩,
   ⟨.rorAbs addr, 0x6E, .a, some (.abs addr), fun v c => v.toNat / 2 + c * 128, fun v _ => v.getLsbD 0⟩,
   ⟨.rorZpx z, 0x76, .a, some (.zpx z), fun v c => v.toNat / 2 + c * 128, fun v _ => v.getLsbD 0⟩,
   ⟨.rorAbsx addr, 0x7E, .a, some (.absx addr), fun v c => v.toNat / 2 + c * 128, fun v _ => v.getLsbD 0⟩]

/-- INC, INX, INY (R204, R206, R207): C is kept. -/
def incForms (z : Byte) (addr : Word) : List ModifyForm :=
  [⟨.incAcc, 0x1A, .a, none, fun v _ => v.toNat + 1, fun _ c => c⟩,
   ⟨.incZp z, 0xE6, .a, some (.zp z), fun v _ => v.toNat + 1, fun _ c => c⟩,
   ⟨.incAbs addr, 0xEE, .a, some (.abs addr), fun v _ => v.toNat + 1, fun _ c => c⟩,
   ⟨.incZpx z, 0xF6, .a, some (.zpx z), fun v _ => v.toNat + 1, fun _ c => c⟩,
   ⟨.incAbsx addr, 0xFE, .a, some (.absx addr), fun v _ => v.toNat + 1, fun _ c => c⟩,
   ⟨.inx, 0xE8, .x, none, fun v _ => v.toNat + 1, fun _ c => c⟩,
   ⟨.iny, 0xC8, .y, none, fun v _ => v.toNat + 1, fun _ c => c⟩]

/-- DEC, DEX, DEY (R205, R208, R209): C is kept. -/
def decForms (z : Byte) (addr : Word) : List ModifyForm :=
  [⟨.decAcc, 0x3A, .a, none, fun v _ => (v.toNat : Int) - 1, fun _ c => c⟩,
   ⟨.decZp z, 0xC6, .a, some (.zp z), fun v _ => (v.toNat : Int) - 1, fun _ c => c⟩,
   ⟨.decAbs addr, 0xCE, .a, some (.abs addr), fun v _ => (v.toNat : Int) - 1, fun _ c => c⟩,
   ⟨.decZpx z, 0xD6, .a, some (.zpx z), fun v _ => (v.toNat : Int) - 1, fun _ c => c⟩,
   ⟨.decAbsx addr, 0xDE, .a, some (.absx addr), fun v _ => (v.toNat : Int) - 1, fun _ c => c⟩,
   ⟨.dex, 0xCA, .x, none, fun v _ => (v.toNat : Int) - 1, fun _ c => c⟩,
   ⟨.dey, 0x88, .y, none, fun v _ => (v.toNat : Int) - 1, fun _ c => c⟩]

/-- RMBn (false) and SMBn (true) on `z`, with the bit number (R215, R216). -/
def bitModifyForms (z : Byte) : List (Instr × Byte × Nat × Bool) :=
  [(.rmb0 z, 0x07, 0, false), (.rmb1 z, 0x17, 1, false),
   (.rmb2 z, 0x27, 2, false), (.rmb3 z, 0x37, 3, false),
   (.rmb4 z, 0x47, 4, false), (.rmb5 z, 0x57, 5, false),
   (.rmb6 z, 0x67, 6, false), (.rmb7 z, 0x77, 7, false),
   (.smb0 z, 0x87, 0, true), (.smb1 z, 0x97, 1, true),
   (.smb2 z, 0xA7, 2, true), (.smb3 z, 0xB7, 3, true),
   (.smb4 z, 0xC7, 4, true), (.smb5 z, 0xD7, 5, true),
   (.smb6 z, 0xE7, 6, true), (.smb7 z, 0xF7, 7, true)]

/-- BBRn (false) and BBSn (true), with the bit number (R260, R261). -/
def bitBranchForms (z : Byte) (rel : Int) : List (Instr × Byte × Nat × Bool) :=
  [(.bbr0 z rel, 0x0F, 0, false), (.bbr1 z rel, 0x1F, 1, false),
   (.bbr2 z rel, 0x2F, 2, false), (.bbr3 z rel, 0x3F, 3, false),
   (.bbr4 z rel, 0x4F, 4, false), (.bbr5 z rel, 0x5F, 5, false),
   (.bbr6 z rel, 0x6F, 6, false), (.bbr7 z rel, 0x7F, 7, false),
   (.bbs0 z rel, 0x8F, 0, true), (.bbs1 z rel, 0x9F, 1, true),
   (.bbs2 z rel, 0xAF, 2, true), (.bbs3 z rel, 0xBF, 3, true),
   (.bbs4 z rel, 0xCF, 4, true), (.bbs5 z rel, 0xDF, 5, true),
   (.bbs6 z rel, 0xEF, 6, true), (.bbs7 z rel, 0xFF, 7, true)]

/-- The eight conditional branches with the flag they read and the value that takes them (R251 to R258). -/
def branchForms (rel : Int) : List (Instr × Byte × Flag × Bool) :=
  [(.bpl rel, 0x10, .n, false), (.bmi rel, 0x30, .n, true),
   (.bvc rel, 0x50, .v, false), (.bvs rel, 0x70, .v, true),
   (.bcc rel, 0x90, .c, false), (.bcs rel, 0xB0, .c, true),
   (.bne rel, 0xD0, .z, false), (.beq rel, 0xF0, .z, true)]

/-- The flag instructions with the flag and the value written (R370 to R376). -/
def flagForms : List (Instr × Byte × Flag × Bool) :=
  [(.clc, 0x18, .c, false), (.sec, 0x38, .c, true),
   (.cli, 0x58, .i, false), (.sei, 0x78, .i, true),
   (.cld, 0xD8, .d, false), (.sed, 0xF8, .d, true),
   (.clv, 0xB8, .v, false)]

/-- TAX, TXA, TAY, TYA, TSX (R350 to R354). -/
def transferForms : List RegForm :=
  [⟨.tax, 0xAA, .a, .x⟩, ⟨.txa, 0x8A, .x, .a⟩,
   ⟨.tay, 0xA8, .a, .y⟩, ⟨.tya, 0x98, .y, .a⟩,
   ⟨.tsx, 0xBA, .s, .x⟩]

/-- SXY, SAX, SAY (R356 to R358). -/
def swapForms : List RegForm :=
  [⟨.sxy, 0x02, .x, .y⟩, ⟨.sax, 0x22, .a, .x⟩,
   ⟨.say, 0x42, .a, .y⟩]

/-- CLA, CLX, CLY (R359 to R361). -/
def clearForms : List (Instr × Byte × Reg) :=
  [(.cla, 0x62, .a), (.clx, 0x82, .x),
   (.cly, 0xC2, .y)]

/-- PHA, PHX, PHY (R362, R364, R365). -/
def pushForms : List (Instr × Byte × Reg) :=
  [(.pha, 0x48, .a), (.phx, 0xDA, .x),
   (.phy, 0x5A, .y)]

/-- PLA, PLX, PLY (R366, R368, R369). -/
def pullForms : List (Instr × Byte × Reg) :=
  [(.pla, 0x68, .a), (.plx, 0xFA, .x),
   (.ply, 0x7A, .y)]

/-- NOP, CSL, CSH (R381, R330, R331). -/
def idleForms : List PlainForm :=
  [⟨.nop, 0xEA⟩, ⟨.csl, 0x54⟩,
   ⟨.csh, 0xD4⟩]

/-- ST0, ST1, ST2 with the port address (R325 to R327). -/
def portForms (v : Byte) : List (Instr × Byte × Word) :=
  [(.st0 v, 0x03, 0x0000), (.st1 v, 0x13, 0x0002), (.st2 v, 0x23, 0x0003)]

/-- The five block transfers with the source and destination of step `k`, as numbers before reduction mod 65536
(R301 to R305). -/
def blockForms (src dst len : Word) : List (Instr × (Nat → Int) × (Nat → Int)) :=
  [(.tii src dst len, (fun k => src.toNat + k), (fun k => dst.toNat + k)),
   (.tdd src dst len, (fun k => src.toNat - k), (fun k => dst.toNat - k)),
   (.tin src dst len, (fun k => src.toNat + k), (fun _ => dst.toNat)),
   (.tia src dst len, (fun k => src.toNat + k), (fun k => dst.toNat + k % 2)),
   (.tai src dst len, (fun k => src.toNat + k % 2), (fun k => dst.toNat + k))]

/-- The 22 undefined opcodes (R140, R385). -/
def undefinedForms : List PlainForm :=
  [⟨.undef0B, 0x0B⟩, ⟨.undef1B, 0x1B⟩, ⟨.undef2B, 0x2B⟩, ⟨.undef33, 0x33⟩,
   ⟨.undef3B, 0x3B⟩, ⟨.undef4B, 0x4B⟩, ⟨.undef5B, 0x5B⟩, ⟨.undef5C, 0x5C⟩,
   ⟨.undef63, 0x63⟩, ⟨.undef6B, 0x6B⟩, ⟨.undef7B, 0x7B⟩, ⟨.undef8B, 0x8B⟩,
   ⟨.undef9B, 0x9B⟩, ⟨.undefAB, 0xAB⟩, ⟨.undefBB, 0xBB⟩, ⟨.undefCB, 0xCB⟩,
   ⟨.undefDB, 0xDB⟩, ⟨.undefDC, 0xDC⟩, ⟨.undefE2, 0xE2⟩, ⟨.undefEB, 0xEB⟩,
   ⟨.undefFB, 0xFB⟩, ⟨.undefFC, 0xFC⟩]

/-! ## What is said about P, memory and the rest -/

/-- The instruction's opcode byte (30_encoding.md R113). -/
def Opcode (i : Instr) (op : Byte) : Prop := (encode i).head? = some op

/-- Z and N as `setNZ(v)` leaves them (R14). -/
def NZ (v p' : Byte) : Prop := flag p' .z = decide (v = 0) ∧ flag p' .n = v.getLsbD 7

/-- The flags listed are unchanged. -/
def Keeps (p p' : Byte) (fs : List Flag) : Prop := ∀ f ∈ fs, flag p' f = flag p f

/-- Every flag but T is unchanged, and T is clear. -/
def OnlyT (p p' : Byte) : Prop := flag p' .t = false ∧ Keeps p p' [.c, .z, .i, .d, .b, .v, .n]

/-- `t` is `s` in everything but the collaborators' bookkeeping. -/
def SameButCalls (s t : State) : Prop :=
  t = { s with platform := t.platform, draws := t.draws, calls := t.calls }

/-- The location is zero-page byte `n`. -/
def ZpAt (n : Nat) (loc : Loc) : Prop := ∃ z : Byte, loc = .zp z ∧ z.toNat = n

/-- The location is logical address `n`. -/
def LogAt (n : Nat) (loc : Loc) : Prop := ∃ addr : Word, loc = .log addr ∧ addr.toNat = n

/-- In `s` the mode is of an instruction `n` bytes long, and its effective address is the location said. -/
def ModeIs (m : Mode) (n : Nat) (s : State) (at_ : Loc → Prop) : Prop := m.length = n ∧ at_ (m.loc s)

/-- `t` is `s` after `v` was written to `loc`, as far as memory and the record of calls go: the cell the location
names in `s` holds `v`; a location behind the I/O sentinel makes one `io_write` and stores nothing; every other cell
reads as before. -/
def Stored (s t : State) (loc : Loc) (v : Byte) : Prop :=
  (∀ k, loc.cell s = some k → t.mem.read k = v ∧ t.calls = s.calls) ∧
  (loc.cell s = none → ∃ addr, loc = .log addr ∧ t.calls = .ioWrite addr v :: s.calls) ∧
  ∀ k, loc.cell s ≠ some k → t.mem.read k = s.mem.read k

/-- `t` is `s` after the bytes `vs` were pushed, first to last, from stack pointer `s.sp` down, wrapping within the
stack page (R82), as far as memory goes. -/
def Pushed (s t : State) (vs : List Byte) : Prop :=
  (∀ n v, vs[n]? = some v → t.mem.read (stackCell (s.sp - BitVec.ofNat 8 n)) = v) ∧
  ∀ k, (∀ n, n < vs.length → k ≠ stackCell (s.sp - BitVec.ofNat 8 n)) → t.mem.read k = s.mem.read k

end Sys2Proof.Claims

open Sys2Proof Sys2Proof.Config Sys2Proof.Machine Sys2Proof.Claims

/-! ## Encoding and the step -/

/-- When a running machine's bytes at PC are the encoding of a well-formed instruction, all in buffers, the step is
that instruction's meaning followed by the rest of the iteration (60_exceptions.md R410; 30_encoding.md R115). Every
instruction's meaning answers a next state (R405). -/
def Obligations.StepRunsDecodedInstruction : Prop :=
  ∀ (s : State) (i : Instr), s.status = .running → i.wellFormed = true → CodeAt s s.pc (encode i) →
    ∃ t, exec i s = .next t ∧ step s = .next (afterInstr t)

/-- A machine takes a step exactly when it is Running, whatever its bytes, tables and collaborators are: the step runs
the instruction the fetched bytes decode to on the state after the fetch; a stopped machine takes none (R58, R141,
R405, R407). -/
def Obligations.OnlyARunningMachineSteps : Prop :=
  (∀ s : State, s.status = .running → ∃ i t, decode (fetch s).1 = .ok (i, []) ∧ exec i (fetch s).2 = .next t ∧
    step s = .next (afterInstr t)) ∧
  ∀ s : State, s.status ≠ .running → step s = .fault .loopEnded

/-- Words written out from the encodings of 30_encoding.md R111 and R113, one or more a family. -/
def Obligations.KnownWordsDecode : Prop :=
  decode [0x69, 0x01] = .ok (.adcImm 0x01, []) ∧
  decode [0x11, 0x40] = .ok (.oraZpiy 0x40, []) ∧
  decode [0x6E, 0x00, 0x40] = .ok (.rorAbs 0x4000, []) ∧
  decode [0xB3, 0xFF, 0x00, 0x40] = .ok (.tstAbsx 0xFF 0x4000, []) ∧
  decode [0x37, 0x30] = .ok (.rmb3 0x30, []) ∧
  decode [0xD0, 0xF9] = .ok (.bne (-7), []) ∧
  decode [0xFF, 0x20, 0x10] = .ok (.bbs7 0x20 16, []) ∧
  decode [0x7C, 0x00, 0x40] = .ok (.jmpIndx 0x4000, []) ∧
  decode [0x73, 0x00, 0x40, 0x10, 0x41, 0x03, 0x02] = .ok (.tii 0x4000 0x4110 0x0203, []) ∧
  decode [0x53, 0x03] = .ok (.tam 0x03, []) ∧
  decode [0x9D, 0x00, 0x40, 0xEA] = .ok (.staAbsx 0x4000, [0xEA]) ∧
  decode [0xFC, 0x00] = .ok (.undefFC, [0x00])

/-- Decode and encode agree: every well-formed instruction, with every operand at every value its encoding admits,
decodes from its own bytes, whatever follows them. -/
def Obligations.DecodeOfEncode : Prop :=
  ∀ (i : Instr) (rest : List Byte), i.wellFormed = true → decode (encode i ++ rest) = .ok (i, rest)

/-- Each byte string has one meaning: what decodes is well formed, and its encoding is exactly the bytes read. -/
def Obligations.EncodeOfDecode : Prop :=
  ∀ (bytes rest : List Byte) (i : Instr), decode bytes = .ok (i, rest) →
    i.wellFormed = true ∧ encode i ++ rest = bytes

/-- The 22 undefined opcodes (R140): each decodes from its one byte, and halts with the dump, changing no register,
flag, counter or memory byte (R385, R407; UNDEFINED_POLICY = halt is decision D5, log 15). No other instruction changes
the status. -/
def Obligations.UndefinedOpcodesHalt : Prop :=
  (∀ f ∈ undefinedForms, ∀ (s : State) (rest : List Byte),
    decode (f.op :: rest) = .ok (f.i, rest) ∧
    exec f.i s = .next { s with status := .halted s.pc f.op,
                                calls := .dump s.a s.x s.y s.sp s.p s.pc s.mpr :: s.calls }) ∧
  ∀ (i : Instr) (s t : State), (∀ f ∈ undefinedForms, i ≠ f.i) → exec i s = .next t → t.status = s.status

/-- The invariant `State.Inv` (memory in canonical form; a halt record names the instruction the machine stands at, an
undefined byte) is kept by every step. The canonical form is the model's choice of data (log 7). -/
def Obligations.InvKeptByStep : Prop :=
  ∀ s t : State, s.Inv → step s = .next t → t.Inv

/-- The invariant holds at reset. -/
def Obligations.InvAtReset : Prop := State.reset.Inv

/-- Reset (R460, R59 with D28): for every loaded machine and every draw for what holds no value, PC is the word at
$FFFE read through the read table, I = 1, D = T = B = 0, the counters are 0, nothing is pending, the status is Running,
and what the host loaded is unchanged; if slot 7 is a buffer no call is made. `State.reset` is the reset of the machine
named in log 4, 5, 6 and 8 (the model's choice). -/
def Obligations.ResetReadsTheVector : Prop :=
  (∀ b : Boot,
    (resetWith b).pc = (memRead16 0xFFFE (bootState b)).1 ∧
    flag (resetWith b).p .i = true ∧ flag (resetWith b).p .d = false ∧ flag (resetWith b).p .t = false ∧
    flag (resetWith b).p .b = false ∧ flag (resetWith b).p .c = b.c ∧ flag (resetWith b).p .z = b.z ∧
    flag (resetWith b).p .v = b.v ∧ flag (resetWith b).p .n = b.n ∧
    (resetWith b).a = b.a ∧ (resetWith b).x = b.x ∧ (resetWith b).y = b.y ∧ (resetWith b).sp = b.sp ∧
    (resetWith b).scanCycles = 0 ∧ (resetWith b).timerDelta = 0 ∧ (resetWith b).pending = Pending.empty ∧
    (resetWith b).status = .running ∧ (resetWith b).mem = b.mem ∧ (resetWith b).pageR = b.pageR ∧
    (resetWith b).pageW = b.pageW ∧ (resetWith b).mpr = b.mpr ∧
    (b.pageR.get 7 ≠ .io → (resetWith b).calls = [])) ∧
  State.reset = resetWith Boot.named

/-! ## Memory -/

/-- R71: the slot is `address >> 13`, the offset the low 13 bits. -/
def Obligations.SlotAndOffsetSplitTheAddress : Prop :=
  ∀ addr : Word, (slot addr).val = addr.toNat >>> 13 ∧ offset addr = addr.toNat % 8192

/-- R74: a read goes by the read table: to the I/O handler with the full address, or to the byte at the offset of the
window, changing nothing. -/
def Obligations.PagedReadFollowsReadTable : Prop :=
  ∀ (addr : Word) (s : State),
    (s.pageR.get (slot addr) = .io →
      memRead addr s = ioRead addr s ∧
      (ioRead addr s).2.calls = .ioRead addr (ioRead addr s).1 :: s.calls) ∧
    ∀ b, s.pageR.get (slot addr) = .buf b → memRead addr s = (s.mem.read (b * 8192 + offset addr), s)

/-- R75: a write goes by the write table, not the read table: one `io_write` with the full address and no stored byte,
or the byte at the offset of the window and no other. Where the read entry is a buffer too, a later read of that address
sees the write exactly when the two entries name the same window. -/
def Obligations.PagedWriteFollowsWriteTable : Prop :=
  ∀ (addr : Word) (v : Byte) (s : State),
    (s.pageW.get (slot addr) = .io →
      memWrite addr v s = { s with calls := .ioWrite addr v :: s.calls }) ∧
    ∀ b, s.pageW.get (slot addr) = .buf b →
      (∃ m, memWrite addr v s = { s with mem := m } ∧ m.read (b * 8192 + offset addr) = v ∧
        ∀ k, k ≠ b * 8192 + offset addr → m.read k = s.mem.read k) ∧
      ∀ c, s.pageR.get (slot addr) = .buf c →
        (memRead addr (memWrite addr v s)).1 = if b = c then v else (memRead addr s).1

/-- R80: zero-page accesses reach byte `z mod 256` of BASE_RAM and nothing else: no page table, no I/O. -/
def Obligations.ZeroPageIsAFixedBuffer : Prop :=
  ∀ (z : Nat) (v : Byte) (s : State),
    zpRead (BitVec.ofNat 8 z) s = s.mem.read (baseRam * 8192 + z % 256) ∧
    ∃ m, zpWrite (BitVec.ofNat 8 z) v s = { s with mem := m } ∧ m.read (baseRam * 8192 + z % 256) = v ∧
      ∀ k, k ≠ baseRam * 8192 + z % 256 → m.read k = s.mem.read k

/-- R83 (derived there): where a slot maps BASE_RAM for reads, a byte written through the zero page or the stack is
seen by a paged read, and where it maps it for writes, the other way round. -/
def Obligations.ZeroPageAndStackAliasPagedAccess : Prop :=
  ∀ (addr : Word) (v : Byte) (s : State),
    (s.pageR.get (slot addr) = .buf baseRam → offset addr < 0x100 →
      (memRead addr (zpWrite (BitVec.ofNat 8 (offset addr)) v s)).1 = v) ∧
    (s.pageR.get (slot addr) = .buf baseRam → offset addr = 0x100 + s.sp.toNat →
      (memRead addr (push v s)).1 = v) ∧
    (s.pageW.get (slot addr) = .buf baseRam → offset addr < 0x100 →
      zpRead (BitVec.ofNat 8 (offset addr)) (memWrite addr v s) = v) ∧
    (s.pageW.get (slot addr) = .buf baseRam → offset addr = 0x100 + (s.sp + 1).toNat →
      (pull (memWrite addr v s)).1 = v)

/-- R82: a pushed word is pulled back with S restored; it lies high byte first in the stack page, S wraps within it,
and nothing else changes. (The order is general knowledge the spec adopts, log 24.) -/
def Obligations.PushedWordIsPulledBack : Prop :=
  ∀ (w : Word) (s : State),
    (pull16 (push16 w s)).1 = w ∧ (pull16 (push16 w s)).2.sp = s.sp ∧
    (∃ m, push16 w s = { s with mem := m, sp := s.sp - 2 }) ∧
    Pushed s (push16 w s) [w.extractLsb' 8 8, w.extractLsb' 0 8]

/-- The addressing modes (R111, R120 to R129, R136; R81 with decision D34, log 26). For every state and every operand
byte: the location each mode gives, as a number, with zero-page sums mod 256, logical sums mod 65536 and a zero-page
pointer's high byte at the next index mod 256; the mode's length; the value of an operand, the immediate or the byte
read once at the location. Reading it changes nothing but the record of collaborators' calls (R87; log 3, 11), and not
even that unless the location is a logical address whose read entry is the I/O sentinel. -/
def Obligations.OperandReadOnlyCallsIo : Prop :=
  (∀ (z : Byte) (addr : Word) (s : State),
    let byteAt := fun n : Nat => (s.mem.read (baseRam * 8192 + n % 256)).toNat
    let pointer := fun n : Nat => byteAt n + 256 * byteAt (n + 1)
    ModeIs (.zp z) 2 s (ZpAt z.toNat) ∧
    ModeIs (.zpx z) 2 s (ZpAt ((z.toNat + s.x.toNat) % 256)) ∧
    ModeIs (.zpy z) 2 s (ZpAt ((z.toNat + s.y.toNat) % 256)) ∧
    ModeIs (.abs addr) 3 s (LogAt addr.toNat) ∧
    ModeIs (.absx addr) 3 s (LogAt ((addr.toNat + s.x.toNat) % 65536)) ∧
    ModeIs (.absy addr) 3 s (LogAt ((addr.toNat + s.y.toNat) % 65536)) ∧
    ModeIs (.zpi z) 2 s (LogAt (pointer z.toNat)) ∧
    ModeIs (.zpix z) 2 s (LogAt (pointer (z.toNat + s.x.toNat))) ∧
    ModeIs (.zpiy z) 2 s (LogAt ((pointer z.toNat + s.y.toNat) % 65536))) ∧
  (∀ (v : Byte) (s : State), operand (.imm v) s = (v, s) ∧ (Src.imm v).length = 2) ∧
  (∀ (m : Mode) (s : State), (Src.mem m).length = m.length ∧
    (∀ z, m.loc s = .zp z → operand (.mem m) s = (s.mem.read (baseRam * 8192 + z.toNat), s)) ∧
    ∀ addr, m.loc s = .log addr → operand (.mem m) s = memRead addr s) ∧
  ∀ (m : Src) (s : State), SameButCalls s (operand m s).2 ∧
    ((∀ mode addr, m = .mem mode → mode.loc s = .log addr → s.pageR.get (slot addr) ≠ .io) → (operand m s).2 = s)

/-! ## Flags, arithmetic, logic, compare -/

/-- R14: Z and N recomputed from the result byte, T cleared, all other flags untouched. -/
def Obligations.SetNZWritesZeroAndNegative : Prop :=
  ∀ v p : Byte, flag (setNZ v p) .z = decide (v = 0) ∧ flag (setNZ v p) .n = v.getLsbD 7 ∧
    flag (setNZ v p) .t = false ∧ Keeps p (setNZ v p) [.c, .i, .d, .b, .v]

/-- R163, with R161, R162: CMP, CPX and CPY write C iff register ≥ operand, Z iff equal, N from bit 7 of the
difference, T cleared; every other flag and everything else is unchanged but PC and the counters. -/
def Obligations.ComparesWriteOnlyFlags : Prop :=
  ∀ (v z : Byte) (addr : Word) (r : Reg) (fs : List ReadForm),
    (r, fs) ∈ [(Reg.a, cmpForms v z addr), (Reg.x, cpxForms v z addr), (Reg.y, cpyForms v z addr)] →
    ∀ f ∈ fs, ∀ s : State,
      Opcode f.i f.op ∧
      ∃ p', exec f.i s = .next { advance f.src.length (cycles f.op) (operand f.src s).2 with p := p' } ∧
        flag p' .c = decide ((operand f.src s).1.toNat ≤ (s.get r).toNat) ∧
        flag p' .z = decide (s.get r = (operand f.src s).1) ∧
        flag p' .n = (s.get r - (operand f.src s).1).getLsbD 7 ∧
        flag p' .t = false ∧ Keeps s.p p' [.i, .d, .b, .v]

/-- ADC in binary mode, not in Transfer mode (R150): the sum mod 256, C from the unsigned sum, V from the signed sum. -/
def Obligations.AdcAddsInBinary : Prop :=
  ∀ (v z : Byte) (addr : Word), ∀ f ∈ adcForms v z addr, ∀ s : State,
    flag s.p .d = false → flag s.p .t = false →
    ∃ p', exec f.i s = .next { advance f.src.length (cycles f.op) (operand f.src s).2 with
        a := BitVec.ofNat 8 (s.a.toNat + (operand f.src s).1.toNat + (flag s.p .c).toNat), p := p' } ∧
      flag p' .c = decide (255 < s.a.toNat + (operand f.src s).1.toNat + (flag s.p .c).toNat) ∧
      (flag p' .v = true ↔ 127 < s.a.toInt + (operand f.src s).1.toInt + (flag s.p .c).toNat ∨
        s.a.toInt + (operand f.src s).1.toInt + (flag s.p .c).toNat < -128) ∧
      NZ (BitVec.ofNat 8 (s.a.toNat + (operand f.src s).1.toNat + (flag s.p .c).toNat)) p' ∧
      flag p' .t = false ∧ Keeps s.p p' [.i, .d, .b]

/-- ADC in decimal mode, not in Transfer mode (R150): on valid BCD, the BCD of the decimal sum mod 100 and C for a sum
over 99; otherwise the free pair `decimalNonBcd` (R157, D10, log 9). V is cleared (D8, log 21); one extra cycle. -/
def Obligations.AdcAddsInDecimal : Prop :=
  ∀ (v z : Byte) (addr : Word), ∀ f ∈ adcForms v z addr, ∀ s : State,
    flag s.p .d = true → flag s.p .t = false →
    ∃ p' r, exec f.i s = .next { advance f.src.length (cycles f.op + 1) (operand f.src s).2 with a := r, p := p' } ∧
      (∀ x₁ x₀ y₁ y₀ : Nat, x₁ ≤ 9 → x₀ ≤ 9 → y₁ ≤ 9 → y₀ ≤ 9 → s.a.toNat = 16 * x₁ + x₀ →
        (operand f.src s).1.toNat = 16 * y₁ + y₀ →
        let t := (10 * x₁ + x₀) + (10 * y₁ + y₀) + (flag s.p .c).toNat
        10 * (r.toNat / 16) + r.toNat % 16 = t % 100 ∧ r.toNat % 16 ≤ 9 ∧ flag p' .c = decide (99 < t)) ∧
      ((validBcd s.a && validBcd (operand f.src s).1) = false →
        (r, flag p' .c) = decimalNonBcd .add s.a (operand f.src s).1 (flag s.p .c)) ∧
      flag p' .v = false ∧ NZ r p' ∧ flag p' .t = false ∧ Keeps s.p p' [.i, .d, .b]

/-- SBC in binary mode (R151): whatever T is, A is the first operand and the destination; C means no borrow. -/
def Obligations.SbcSubtractsInBinary : Prop :=
  ∀ (v z : Byte) (addr : Word), ∀ f ∈ sbcForms v z addr, ∀ s : State, flag s.p .d = false →
    let u : Int := (s.a.toNat : Int) - (operand f.src s).1.toNat - (1 - (flag s.p .c).toNat)
    let d : Int := s.a.toInt - (operand f.src s).1.toInt - (1 - (flag s.p .c).toNat)
    ∃ p', exec f.i s = .next { advance f.src.length (cycles f.op) (operand f.src s).2 with
        a := BitVec.ofInt 8 u, p := p' } ∧
      flag p' .c = decide (0 ≤ u) ∧ (flag p' .v = true ↔ 127 < d ∨ d < -128) ∧ NZ (BitVec.ofInt 8 u) p' ∧
      flag p' .t = false ∧ Keeps s.p p' [.i, .d, .b]

/-- SBC in decimal mode (R151; decision D9, log 21): on valid BCD, the BCD of the decimal difference mod 100 and C for
no borrow; otherwise the free pair `decimalNonBcd` (log 9). V is cleared; one extra cycle. -/
def Obligations.SbcSubtractsInDecimal : Prop :=
  ∀ (v z : Byte) (addr : Word), ∀ f ∈ sbcForms v z addr, ∀ s : State, flag s.p .d = true →
    ∃ p' r, exec f.i s = .next { advance f.src.length (cycles f.op + 1) (operand f.src s).2 with a := r, p := p' } ∧
      (∀ x₁ x₀ y₁ y₀ : Nat, x₁ ≤ 9 → x₀ ≤ 9 → y₁ ≤ 9 → y₀ ≤ 9 → s.a.toNat = 16 * x₁ + x₀ →
        (operand f.src s).1.toNat = 16 * y₁ + y₀ →
        let t : Int := ((10 * x₁ + x₀ : Nat) : Int) - (10 * y₁ + y₀ : Nat) - (1 - (flag s.p .c).toNat)
        ((10 * (r.toNat / 16) + r.toNat % 16 : Nat) : Int) = t % 100 ∧ r.toNat % 16 ≤ 9 ∧
          flag p' .c = decide (0 ≤ t)) ∧
      ((validBcd s.a && validBcd (operand f.src s).1) = false →
        (r, flag p' .c) = decimalNonBcd .sub s.a (operand f.src s).1 (!flag s.p .c)) ∧
      flag p' .v = false ∧ NZ r p' ∧ flag p' .t = false ∧ Keeps s.p p' [.i, .d, .b]

/-- AND, ORA, EOR outside Transfer mode (R153 to R155): bit by bit, Z and N from the result. -/
def Obligations.LogicCombinesBits : Prop :=
  ∀ (v z : Byte) (addr : Word) (g : Bool → Bool → Bool) (fs : List ReadForm),
    (g, fs) ∈ [(and, andForms v z addr), (or, orForms v z addr), (xor, eorForms v z addr)] →
    ∀ f ∈ fs, ∀ s : State, flag s.p .t = false →
      Opcode f.i f.op ∧
      ∃ p' r, exec f.i s = .next { advance f.src.length (cycles f.op) (operand f.src s).2 with a := r, p := p' } ∧
        (∀ n < 8, r.getLsbD n = g (s.a.getLsbD n) ((operand f.src s).1.getLsbD n)) ∧
        NZ r p' ∧ flag p' .t = false ∧ Keeps s.p p' [.c, .i, .d, .b, .v]

/-- Transfer mode (R152, R117): with T = 1, AND, ORA, EOR and ADC do to the zero-page byte at X what they do to A with
T = 0, at 3 more cycles (D7, log 20); A is neither read nor written, and no other byte changes. -/
def Obligations.TransferModeUsesZeroPageAtX : Prop :=
  ∀ (v z : Byte) (addr : Word),
    ∀ f ∈ andForms v z addr ++ orForms v z addr ++ eorForms v z addr ++ adcForms v z addr,
    ∀ s : State, flag s.p .t = true →
      ∃ t u, exec f.i s = .next t ∧
        exec f.i { s with a := zpRead s.x s, p := setFlag s.p .t false } = .next u ∧
        t = { u with a := s.a, mem := t.mem, scanCycles := u.scanCycles + 3, timerDelta := u.timerDelta + 3 } ∧
        t.mem.read (zpCell s.x) = u.a ∧ ∀ k, k ≠ zpCell s.x → t.mem.read k = s.mem.read k

/-! ## Shifts, increments, bits -/

/-- ASL, LSR, ROL, ROR on A and on memory (R200 to R203): the outgoing bit to C, for rotates the incoming carry to the
vacated bit, one read and one write. -/
def Obligations.ShiftsMoveBitsThroughCarry : Prop :=
  ∀ (z : Byte) (addr : Word),
    ∀ f ∈ aslForms z addr ++ lsrForms z addr ++ rolForms z addr ++ rorForms z addr, ∀ s : State,
    Opcode f.i f.op ∧
    (f.mode = none → ∃ p',
      exec f.i s = .next { advance 1 (cycles f.op) s with
        a := BitVec.ofInt 8 (f.val s.a (flag s.p .c).toNat), p := p' } ∧
      flag p' .c = f.out s.a (flag s.p .c) ∧ NZ (BitVec.ofInt 8 (f.val s.a (flag s.p .c).toNat)) p' ∧
      flag p' .t = false ∧ Keeps s.p p' [.i, .d, .b, .v]) ∧
    ∀ m, f.mode = some m →
      let v := (operand (.mem m) s).1
      let u := (operand (.mem m) s).2
      let r := BitVec.ofInt 8 (f.val v (flag s.p .c).toNat)
      ∃ t p', exec f.i s = .next t ∧
        t = { advance m.length (cycles f.op) u with p := p', mem := t.mem, calls := t.calls } ∧
        Stored u t (m.loc s) r ∧ flag p' .c = f.out v (flag s.p .c) ∧ NZ r p' ∧ flag p' .t = false ∧
        Keeps s.p p' [.i, .d, .b, .v]

/-- INC, DEC, INX, INY, DEX, DEY (R204 to R209): one more or less mod 256, Z and N from the result, C kept. (General
knowledge the spec adopts, section 2 of 41_shift_bit.md; log 16.) -/
def Obligations.IncrementsAndDecrementsKeepCarry : Prop :=
  ∀ (z : Byte) (addr : Word), ∀ f ∈ incForms z addr ++ decForms z addr, ∀ s : State,
    (f.mode = none →
      let r := BitVec.ofInt 8 (f.val (s.get f.reg) 0)
      ∃ t p', exec f.i s = .next t ∧
        t = { advance 1 (cycles f.op) s with a := t.a, x := t.x, y := t.y, p := p' } ∧
        t.get f.reg = r ∧ (∀ q, q ≠ f.reg → t.get q = s.get q) ∧
        NZ r p' ∧ flag p' .t = false ∧ Keeps s.p p' [.c, .i, .d, .b, .v]) ∧
    ∀ m, f.mode = some m →
      let v := (operand (.mem m) s).1
      let u := (operand (.mem m) s).2
      let r := BitVec.ofInt 8 (f.val v 0)
      ∃ t p', exec f.i s = .next t ∧
        t = { advance m.length (cycles f.op) u with p := p', mem := t.mem, calls := t.calls } ∧
        Stored u t (m.loc s) r ∧ NZ r p' ∧ flag p' .t = false ∧ Keeps s.p p' [.c, .i, .d, .b, .v]

/-- BIT in every mode, immediate included (R210): N, V from bits 7, 6 of the operand, Z from A AND operand. -/
def Obligations.BitTestsOperandAgainstA : Prop :=
  ∀ (v z : Byte) (addr : Word), ∀ f ∈ bitForms v z addr, ∀ s : State,
    Opcode f.i f.op ∧
    ∃ p', exec f.i s = .next { advance f.src.length (cycles f.op) (operand f.src s).2 with p := p' } ∧
      flag p' .n = (operand f.src s).1.getLsbD 7 ∧ flag p' .v = (operand f.src s).1.getLsbD 6 ∧
      flag p' .z = decide (s.a &&& (operand f.src s).1 = 0) ∧ flag p' .t = false ∧ Keeps s.p p' [.c, .i, .d, .b]

/-- TST (R211, general knowledge the spec adopts, log 16): N, V from the memory byte, Z from mask AND memory; A is not
read. -/
def Obligations.TstTestsMemoryAgainstMask : Prop :=
  ∀ (v z : Byte) (addr : Word), ∀ f ∈ tstForms v z addr, ∀ s : State,
    ∃ p', exec f.i s =
        .next { advance (f.mode.length + 1) (cycles f.op) (operand (.mem f.mode) s).2 with p := p' } ∧
      flag p' .n = (operand (.mem f.mode) s).1.getLsbD 7 ∧ flag p' .v = (operand (.mem f.mode) s).1.getLsbD 6 ∧
      flag p' .z = decide (v &&& (operand (.mem f.mode) s).1 = 0) ∧ flag p' .t = false ∧
      Keeps s.p p' [.c, .i, .d, .b]

/-- TSB and TRB (R212, R213): the bits of A set or reset in memory, Z from A AND memory, N and V from the byte written
(decision D32, log 28). -/
def Obligations.TsbAndTrbWriteBitsOfA : Prop :=
  ∀ (z : Byte) (addr : Word) (g : Bool → Bool → Bool) (fs : List MemForm),
    (g, fs) ∈ [((fun m a => m || a), tsbForms z addr), ((fun m a => m && !a), trbForms z addr)] →
    ∀ f ∈ fs, ∀ s : State,
      let m := (operand (.mem f.mode) s).1
      let u := (operand (.mem f.mode) s).2
      ∃ t p' r, exec f.i s = .next t ∧
        t = { advance f.mode.length (cycles f.op) u with p := p', mem := t.mem, calls := t.calls } ∧
        Stored u t (f.mode.loc s) r ∧ (∀ n < 8, r.getLsbD n = g (m.getLsbD n) (s.a.getLsbD n)) ∧
        flag p' .z = decide (s.a &&& m = 0) ∧ flag p' .n = r.getLsbD 7 ∧ flag p' .v = r.getLsbD 6 ∧
        flag p' .t = false ∧ Keeps s.p p' [.c, .i, .d, .b]

/-- RMBn and SMBn (R215, R216; flags decision D6, log 19): one bit of one zero-page byte written, T cleared, no other
flag. -/
def Obligations.BitModifyWritesOneBit : Prop :=
  ∀ z : Byte, ∀ f ∈ bitModifyForms z, ∀ s : State,
    ∃ t p', exec f.1 s = .next t ∧ t = { advance 2 (cycles f.2.1) s with p := p', mem := t.mem } ∧
      (zpRead z t).getLsbD f.2.2.1 = f.2.2.2 ∧
      (∀ n < 8, n ≠ f.2.2.1 → (zpRead z t).getLsbD n = (zpRead z s).getLsbD n) ∧
      (∀ k, k ≠ zpCell z → t.mem.read k = s.mem.read k) ∧ OnlyT s.p p'

/-! ## Control -/

/-- The conditional branches and BRA (R250 to R259): T cleared and nothing else in P; taken, PC is the address after the
branch plus the displacement mod 65536 and the cost 2 more than not taken; BRA always goes there at its fixed cost.
(The base costs are general knowledge the spec adopts, log 20.) -/
def Obligations.BranchesGoWhereTheFlagSays : Prop :=
  (∀ rel : Int, ∀ f ∈ branchForms rel, ∀ s : State,
    ∃ p', OnlyT s.p p' ∧
      (flag s.p f.2.2.1 = f.2.2.2 →
        exec f.1 s = .next { advance 2 (2 + 2) s with pc := BitVec.ofInt 16 (s.pc.toNat + 2 + rel), p := p' }) ∧
      (flag s.p f.2.2.1 ≠ f.2.2.2 → exec f.1 s = .next { advance 2 2 s with p := p' })) ∧
  ∀ (rel : Int) (s : State), ∃ p', OnlyT s.p p' ∧
    exec (.bra rel) s = .next { advance 2 4 s with pc := BitVec.ofInt 16 (s.pc.toNat + 2 + rel), p := p' }

/-- BBRn and BBSn (R260, R261): taken when bit n of the zero-page byte is 0 or 1, at 2 more cycles whatever the
displacement (decision D30, log 28); the byte is not written. -/
def Obligations.BitBranchesTestTheZeroPageBit : Prop :=
  ∀ (z : Byte) (rel : Int), ∀ f ∈ bitBranchForms z rel, ∀ s : State,
    ∃ p', OnlyT s.p p' ∧
      ((zpRead z s).getLsbD f.2.2.1 = f.2.2.2 →
        exec f.1 s = .next { advance 3 (6 + 2) s with pc := BitVec.ofInt 16 (s.pc.toNat + 3 + rel), p := p' }) ∧
      ((zpRead z s).getLsbD f.2.2.1 ≠ f.2.2.2 → exec f.1 s = .next { advance 3 6 s with p := p' })

/-- JSR and BSR (R266, R262; decision D17, log 24): the address of the instruction's last byte pushed high byte first,
then the jump. -/
def Obligations.CallsPushTheirLastByteAddress : Prop :=
  (∀ (addr : Word) (s : State), ∃ t p', exec (.jsr addr) s = .next t ∧
    t = { advance 3 (cycles 0x20) s with pc := addr, sp := s.sp - 2, p := p', mem := t.mem } ∧
    Pushed s t [(s.pc + 2).extractLsb' 8 8, (s.pc + 2).extractLsb' 0 8] ∧ OnlyT s.p p') ∧
  ∀ (rel : Int) (s : State), ∃ t p', exec (.bsr rel) s = .next t ∧
    t = { advance 2 (cycles 0x44) s with pc := BitVec.ofInt 16 (s.pc.toNat + 2 + rel), sp := s.sp - 2, p := p',
                                         mem := t.mem } ∧
    Pushed s t [(s.pc + 1).extractLsb' 8 8, (s.pc + 1).extractLsb' 0 8] ∧ OnlyT s.p p'

/-- R267: RTS pulls a word, low byte first, and goes to the address after it; T cleared, no memory byte written. -/
def Obligations.RtsReturnsAfterThePulledWord : Prop :=
  ∀ s : State, Opcode .rts 0x60 ∧ ∃ p', OnlyT s.p p' ∧
    exec .rts s = .next { advance 1 (cycles 0x60) s with
      pc := (s.mem.read (stackCell (s.sp + 2)) ++ s.mem.read (stackCell (s.sp + 1))) + 1,
      sp := s.sp + 2, p := p' }

/-- A call and the return from it come back to the instruction after the call with S restored, for JSR and BSR, if the
two stack bytes are still there (R266, R262, R267; decision D17, log 24). -/
def Obligations.ReturnUndoesCall : Prop :=
  ∀ (i : Instr) (s t r : State), ((∃ addr, i = .jsr addr) ∨ ∃ rel, i = .bsr rel) → exec i s = .next t →
    r.sp = t.sp → r.mem.read (stackCell s.sp) = t.mem.read (stackCell s.sp) →
    r.mem.read (stackCell (s.sp - 1)) = t.mem.read (stackCell (s.sp - 1)) →
    ∃ q, exec .rts r = .next q ∧ q.pc = s.pc + BitVec.ofNat 16 (encode i).length ∧ q.sp = s.sp

/-- JMP (R263 to R265; T by decision D6, log 19): to the address; to the word at the pointer; to the word at the pointer
plus X. The pointer's bytes are two byte reads with no page wrap. -/
def Obligations.JumpsSetPc : Prop :=
  ∀ (addr : Word) (s : State), ∃ p', OnlyT s.p p' ∧
    exec (.jmpAbs addr) s = .next { advance 3 (cycles 0x4C) s with pc := addr, p := p' } ∧
    ∀ (i : Instr) (op : Byte) (ptr : Word),
      (i, op, ptr) ∈ [(Instr.jmpInd addr, 0x6C, addr), (Instr.jmpIndx addr, 0x7C, addr + s.x.zeroExtend 16)] →
      let lo := memRead ptr s
      let hi := memRead (ptr + 1) lo.2
      exec i s = .next { advance 3 (cycles op) hi.2 with pc := hi.1 ++ lo.1, p := p' }

/-- BRK (R268; decisions D4 and D18, log 18 and 24): PC + 2 and P with B set and T clear pushed, D cleared, I set, B in P
as it was, PC from the IRQ2/BRK vector; no other register and no other memory byte changes. -/
def Obligations.BrkTakesTheSoftwareInterrupt : Prop :=
  ∀ s : State, ∃ t p' pushed m,
    exec .brk s = .next t ∧
    (let u := { advance 1 (cycles 0x00) s with sp := s.sp - 3, p := p', mem := m }
     let lo := memRead 0xFFF6 u
     let hi := memRead 0xFFF7 lo.2
     t = { hi.2 with pc := hi.1 ++ lo.1 }) ∧
    Pushed s { s with mem := m } [(s.pc + 2).extractLsb' 8 8, (s.pc + 2).extractLsb' 0 8, pushed] ∧
    flag pushed .b = true ∧ flag pushed .t = false ∧ Keeps s.p pushed [.c, .z, .i, .d, .v, .n] ∧
    flag p' .t = false ∧ flag p' .d = false ∧ flag p' .i = true ∧ Keeps s.p p' [.c, .z, .b, .v, .n]

/-- RTI (R269): P from the stack with B forced clear, T as pulled, then PC with no adjustment; no memory byte is
written. -/
def Obligations.RtiRestoresPAndPc : Prop :=
  ∀ s : State, ∃ p', exec .rti s = .next { advance 1 (cycles 0x40) s with
      pc := s.mem.read (stackCell (s.sp + 3)) ++ s.mem.read (stackCell (s.sp + 2)), sp := s.sp + 3, p := p' } ∧
    flag p' .b = false ∧ Keeps (s.mem.read (stackCell (s.sp + 1))) p' [.c, .z, .i, .d, .t, .v, .n]

/-! ## Block transfers, banks, ports -/

/-- The five block transfers (R300 to R305; decision D31, log 28): the effect is `len` byte moves in order, each one
read then one write at that variant's pointers mod 65536; none for a zero length. The cost is 17 + 6 * len, T is
cleared, PC goes on by 7. -/
def Obligations.BlockTransfersMoveBytesInOrder : Prop :=
  ∀ (src dst len : Word), ∀ f ∈ blockForms src dst len, ∀ s : State,
    ∃ (p' : Byte) (run : Nat → State), OnlyT s.p p' ∧
      run 0 = { advance 7 (17 + 6 * len.toNat) s with p := p' } ∧
      (∀ k, k < len.toNat → run (k + 1) =
        memWrite (BitVec.ofInt 16 (f.2.2 k)) (memRead (BitVec.ofInt 16 (f.2.1 k)) (run k)).1
          (memRead (BitVec.ofInt 16 (f.2.1 k)) (run k)).2) ∧
      exec f.1 s = .next (run len.toNat)

/-- TII between two ranges that lie in buffers and do not overlap copies exactly `len` bytes: each destination byte is
the source byte as it was, every byte outside the destination range is unchanged, and no collaborator is called (R300,
R301). -/
def Obligations.TiiCopiesDisjointRanges : Prop :=
  ∀ (src dst len : Word) (s : State) (from_ to_ : Nat → Nat),
    (∀ k < len.toNat, readCell (src + BitVec.ofNat 16 k) s = some (from_ k)) →
    (∀ k < len.toNat, writeCell (dst + BitVec.ofNat 16 k) s = some (to_ k)) →
    (∀ k < len.toNat, ∀ n < len.toNat, to_ k ≠ from_ n ∧ (to_ k = to_ n → k = n)) →
    ∃ t p', exec (.tii src dst len) s = .next t ∧
      t = { advance 7 (17 + 6 * len.toNat) s with p := p', mem := t.mem } ∧ OnlyT s.p p' ∧
      (∀ k < len.toNat, t.mem.read (to_ k) = s.mem.read (from_ k)) ∧
      ∀ c, (∀ k < len.toNat, c ≠ to_ k) → t.mem.read c = s.mem.read c

/-- TAM and TMA (R320, R321; decisions D6, D20, D38, log 19, 25). TAM: each selected MPR receives A and its slot the bank
manager's entries, no other entry changes, and `bank_set` is called once a selected slot, in ascending order. TMA: the
highest selected MPR goes to A, none leaves A, and no call is made. No flag but T. -/
def Obligations.BankTransfersFollowTheMask : Prop :=
  (∀ (mask : Byte) (s : State), ∃ t p', exec (.tam mask) s = .next t ∧
    t = { advance 2 (cycles 0x53) s with p := p', mpr := t.mpr, pageR := t.pageR, pageW := t.pageW, calls := t.calls } ∧
    OnlyT s.p p' ∧
    (∀ i : Fin 8, mask.getLsbD i = true →
      t.mpr.get i = s.a ∧ (t.pageR.get i, t.pageW.get i) = bankEntries i s.a s) ∧
    (∀ i : Fin 8, mask.getLsbD i = false →
      t.mpr.get i = s.mpr.get i ∧ t.pageR.get i = s.pageR.get i ∧ t.pageW.get i = s.pageW.get i) ∧
    t.calls = ((List.finRange 8).filter (fun (i : Fin 8) => mask.getLsbD i)).reverse.map
      (fun i => ExtCall.bankSet i s.a) ++ s.calls) ∧
  ∀ (mask : Byte) (s : State), ∃ p' r, exec (.tma mask) s = .next { advance 2 (cycles 0x43) s with a := r, p := p' } ∧
    OnlyT s.p p' ∧ (mask = 0 → r = s.a) ∧
    ∀ i : Fin 8, mask.getLsbD i = true → (∀ j : Fin 8, i < j → mask.getLsbD j = false) → r = s.mpr.get i

/-- The MPRs and page tables change only through TAM (R50, R52; decision D42, log 10). -/
def Obligations.OnlyTamChangesTheMapping : Prop :=
  ∀ (i : Instr) (s t : State), (∀ mask, i ≠ .tam mask) → exec i s = .next t →
    t.mpr = s.mpr ∧ t.pageR = s.pageR ∧ t.pageW = s.pageW

/-- ST0, ST1, ST2 (R325 to R327; decision D26, log 27): one `io_write` at $0000, $0002, $0003 whatever the page tables
hold; T cleared; no memory byte changes. -/
def Obligations.PortStoresCallTheIoHandler : Prop :=
  ∀ v : Byte, ∀ f ∈ portForms v, ∀ s : State, ∃ p', OnlyT s.p p' ∧
    exec f.1 s = .next { advance 2 (cycles f.2.1) s with p := p', calls := .ioWrite f.2.2 v :: s.calls }

/-! ## Loads, stores, transfers, stack, flags -/

/-- LDA, LDX, LDY (R340 to R342): the operand to the register, Z and N from it, T cleared; nothing else but PC and the
counters. -/
def Obligations.LoadsSetRegisterAndNZ : Prop :=
  ∀ (v z : Byte) (addr : Word) (r : Reg) (fs : List ReadForm),
    (r, fs) ∈ [(Reg.a, ldaForms v z addr), (Reg.x, ldxForms v z addr), (Reg.y, ldyForms v z addr)] →
    ∀ f ∈ fs, ∀ s : State,
      let b := (operand f.src s).1
      Opcode f.i f.op ∧
      ∃ t p', exec f.i s = .next t ∧
        t = { advance f.src.length (cycles f.op) (operand f.src s).2 with a := t.a, x := t.x, y := t.y, p := p' } ∧
        t.get r = b ∧ (∀ q, q ≠ r → t.get q = s.get q) ∧
        NZ b p' ∧ flag p' .t = false ∧ Keeps s.p p' [.c, .i, .d, .b, .v]

/-- STA, STX, STY, STZ (R345 to R348; T by decision D6, log 19): the register or zero to the location, one write and no
data read; every other byte unchanged; T cleared. -/
def Obligations.StoresWriteOneByte : Prop :=
  ∀ (z : Byte) (addr : Word) (get : State → Byte) (fs : List MemForm),
    (get, fs) ∈ [((fun s => s.a), staForms z addr), ((fun s => s.x), stxForms z addr),
                 ((fun s => s.y), styForms z addr), ((fun _ => 0x00), stzForms z addr)] →
    ∀ f ∈ fs, ∀ s : State, ∃ t p', exec f.i s = .next t ∧
      t = { advance f.mode.length (cycles f.op) s with p := p', mem := t.mem, calls := t.calls } ∧
      Stored s t (f.mode.loc s) (get s) ∧ OnlyT s.p p'

/-- TAX, TXA, TAY, TYA, TSX (R350 to R354): the value copied, Z and N from it, T cleared; TXS (R355, general knowledge,
log 16) copies and writes no flag but T. -/
def Obligations.TransfersCopyRegisters : Prop :=
  (∀ f ∈ transferForms, ∀ s : State, ∃ t p', exec f.i s = .next t ∧
    t = { advance 1 (cycles f.op) s with a := t.a, x := t.x, y := t.y, p := p' } ∧
    t.get f.dst = s.get f.src ∧ (∀ q, q ≠ f.dst → t.get q = s.get q) ∧
    NZ (s.get f.src) p' ∧ flag p' .t = false ∧ Keeps s.p p' [.c, .i, .d, .b, .v]) ∧
  ∀ s : State, ∃ p', OnlyT s.p p' ∧ exec .txs s = .next { advance 1 (cycles 0x9A) s with sp := s.x, p := p' }

/-- SXY, SAX, SAY swap and CLA, CLX, CLY clear (R356 to R361, general knowledge, log 16): no flag but T. -/
def Obligations.SwapsAndClearsWriteNoFlagButT : Prop :=
  (∀ f ∈ swapForms, ∀ s : State, ∃ t p', exec f.i s = .next t ∧
    t = { advance 1 (cycles f.op) s with a := t.a, x := t.x, y := t.y, p := p' } ∧
    t.get f.dst = s.get f.src ∧ t.get f.src = s.get f.dst ∧
    (∀ q, q ≠ f.dst → q ≠ f.src → t.get q = s.get q) ∧ OnlyT s.p p') ∧
  ∀ f ∈ clearForms, ∀ s : State, ∃ t p', exec f.1 s = .next t ∧
    t = { advance 1 (cycles f.2.1) s with a := t.a, x := t.x, y := t.y, p := p' } ∧
    t.get f.2.2 = 0 ∧ (∀ q, q ≠ f.2.2 → t.get q = s.get q) ∧ OnlyT s.p p'

/-- PHA, PHX, PHY, PHP (R362 to R365; decisions D6, D19, log 19 and 25): one byte at `BASE_RAM[$100 + S]`, S one less mod
256; PHP pushes P with T cleared and B as it stands. -/
def Obligations.PushesStoreOneStackByte : Prop :=
  (∀ f ∈ pushForms, ∀ s : State, ∃ t p', exec f.1 s = .next t ∧
    t = { advance 1 (cycles f.2.1) s with sp := s.sp - 1, p := p', mem := t.mem } ∧
    Pushed s t [s.get f.2.2] ∧ OnlyT s.p p') ∧
  ∀ s : State, ∃ t p', exec .php s = .next t ∧
    t = { advance 1 (cycles 0x08) s with sp := s.sp - 1, p := p', mem := t.mem } ∧ Pushed s t [p'] ∧ OnlyT s.p p'

/-- PLA, PLX, PLY (R366, R368, R369): S one more mod 256, the byte there to the register, Z and N from it; PLP (R367;
decisions D6, D19, log 19 and 25) loads all of P from it, T included. No memory byte is written. -/
def Obligations.PullsLoadOneStackByte : Prop :=
  (∀ f ∈ pullForms, ∀ s : State,
    let v := s.mem.read (stackCell (s.sp + 1))
    ∃ t p', exec f.1 s = .next t ∧
      t = { advance 1 (cycles f.2.1) s with a := t.a, x := t.x, y := t.y, sp := s.sp + 1, p := p' } ∧
      t.get f.2.2 = v ∧ (∀ q, q ≠ f.2.2 → q ≠ .s → t.get q = s.get q) ∧
      NZ v p' ∧ flag p' .t = false ∧ Keeps s.p p' [.c, .i, .d, .b, .v]) ∧
  ∀ s : State, exec .plp s = .next { advance 1 (cycles 0x28) s with
    sp := s.sp + 1, p := s.mem.read (stackCell (s.sp + 1)) }

/-- The flag instructions, SET, NOP, CSL and CSH (R370 to R376, R380, R381, R330, R331; T by decision D6, log 19, clock
speed by decision D27, log 27): the named flag written, T cleared (set by SET), nothing else but PC and the counters. -/
def Obligations.FlagInstructionsWriteTheirFlag : Prop :=
  (∀ f ∈ flagForms, ∀ s : State, ∃ p', exec f.1 s = .next { advance 1 (cycles f.2.1) s with p := p' } ∧
    flag p' f.2.2.1 = f.2.2.2 ∧ flag p' .t = false ∧ ∀ g, g ≠ f.2.2.1 → g ≠ .t → flag p' g = flag s.p g) ∧
  (∀ s : State, ∃ p', exec .set s = .next { advance 1 (cycles 0xF4) s with p := p' } ∧ flag p' .t = true ∧
    Keeps s.p p' [.c, .z, .i, .d, .b, .v, .n]) ∧
  ∀ f ∈ idleForms, ∀ s : State, ∃ p', OnlyT s.p p' ∧
    exec f.i s = .next { advance 1 (cycles f.op) s with p := p' }

/-! ## Rules about all instructions -/

/-- T lasts one instruction (R42; decision D6, log 19): every instruction but SET, PLP, RTI and the halting ones leaves
T clear. -/
def Obligations.TransferFlagLastsOneInstruction : Prop :=
  ∀ (i : Instr) (s t : State), i ≠ .set → i ≠ .plp → i ≠ .rti → (∀ f ∈ undefinedForms, i ≠ f.i) →
    exec i s = .next t → flag t.p .t = false

/-- Every defined instruction charges the same cost, at least 2 cycles, to both counters (R13, R472; the table is
decision D44, log 20), and no instruction touches `pending` (R426, decision D41). -/
def Obligations.EveryInstructionChargesBothCounters : Prop :=
  ∀ (i : Instr) (s t : State), (∀ f ∈ undefinedForms, i ≠ f.i) → exec i s = .next t →
    t.pending = s.pending ∧ ∃ n, 2 ≤ n ∧ t.scanCycles = s.scanCycles + n ∧ t.timerDelta = s.timerDelta + n

/-- No instruction reads the counters or `pending` (R55, R56, R426, decision D41): from two states that differ only
there, an instruction gives states that differ only there, by the same amounts. -/
def Obligations.CountersDoNotInfluenceInstructions : Prop :=
  ∀ (i : Instr) (s t : State) (c d : Nat) (q : Pending), exec i s = .next t →
    exec i { s with scanCycles := c, timerDelta := d, pending := q } =
      .next { t with scanCycles := c + (t.scanCycles - s.scanCycles),
                     timerDelta := d + (t.timerDelta - s.timerDelta), pending := q }

/-! ## The loop and interrupts -/

/-- After an instruction (R410; decisions D35, D36, log 23): a halted machine is left as it is; without an event nothing
but the host's pause and the period query happens and no interrupt is entered (R413, decision D13); a callback that
answers Quit ends the iteration with no timer check and no service; otherwise the timer check follows the scanline step,
and one service step follows it exactly when the callback ran or the timer fired. That a callback comes strictly over 455
cycles and not before is R411 with the budget's value presumed (decision D15, log 20); that a host's pause (R431) is in
`timerDelta` when the timer is checked is log 35. -/
def Obligations.InterruptsOnlyAtCheckPoints : Prop :=
  ∀ s : State,
    (s.status ≠ .running → afterInstr s = s) ∧
    (s.status = .running → s.scanCycles ≤ 455 → (hostPause s).timerDelta ≤ periodValue (hostPause s) →
      SameButCalls (hostPause s) (afterInstr s)) ∧
    (s.status = .running → 455 < s.scanCycles →
      (callbackValue { s with scanCycles := s.scanCycles - 455 }).result = .quit →
      (afterInstr s).status = .quit ∧ (afterInstr s).timerDelta = s.timerDelta ∧
      (afterInstr s).pending = s.pending ∧ (afterInstr s).pc = s.pc ∧ (afterInstr s).sp = s.sp) ∧
    (s.status = .running → (scanlineStep s).1.status = .running →
      let u := hostPause (scanlineStep s).1
      ((scanlineStep s).2 = true ↔ 455 < s.scanCycles) ∧
      ((timerStep u).2 = true ↔ periodValue u < u.timerDelta) ∧
      (((scanlineStep s).2 = true ∨ (timerStep u).2 = true) → afterInstr s = service (timerStep u).1) ∧
      ((scanlineStep s).2 = false → (timerStep u).2 = false → afterInstr s = (timerStep u).1))

/-- R401 with R410 step 3 and R58, the callback's results: none requests nothing; a source joins `pending`, every other
request kept; Quit ends the loop at once. The Quit clause rests on choices: the budget 455 (decision D15, log 20), the
iteration ending with the scanline step, with no timer check and no service (decision D35, log 23), and the fault
`loopEnded` as the answer of a step the spec does not take (log 32). -/
def Obligations.CallbackResultsMeanWhatTheySay : Prop :=
  ∀ s : State, applyCallback .none s = s ∧
    (∀ src, ∃ q, applyCallback (.request src) s = { s with pending := q } ∧ q.has src = true ∧
      ∀ x, x ≠ src → q.has x = s.pending.has x) ∧
    applyCallback .quit s = { s with status := .quit } ∧
    (s.status = .running → 455 < s.scanCycles →
      (callbackValue { s with scanCycles := s.scanCycles - 455 }).result = .quit →
      afterInstr s = (scanlineStep s).1 ∧ (afterInstr s).status = .quit ∧ step (afterInstr s) = .fault .loopEnded)

/-- The scanline synchronizer (R411; the budget 455 is decision D15, log 20): strictly over the budget, the callback
runs exactly once and the surplus is carried; otherwise nothing happens. Only bytes the host changed meanwhile (log 13)
differ in memory. -/
def Obligations.ScanlineCallbackRunsOnceOverBudget : Prop :=
  ∀ s : State,
    (s.scanCycles ≤ 455 → scanlineStep s = (s, false)) ∧
    (455 < s.scanCycles →
      let ans := callbackValue { s with scanCycles := s.scanCycles - 455 }
      ∃ t, scanlineStep s = (t, true) ∧
        t = { s with scanCycles := s.scanCycles - 455, platform := t.platform, draws := t.draws,
                     calls := .callback ans.result :: s.calls, mem := t.mem, pending := t.pending, status := t.status } ∧
        (∀ k, (∀ c ∈ ans.pokes, c.1 ≠ k) → t.mem.read k = s.mem.read k) ∧
        (t.status = if ans.result = .quit then .quit else s.status) ∧
        ∀ src, t.pending.has src = (s.pending.has src || decide (ans.result = .request src)))

/-- The timer (R412; the clamp is decision D14, log 23): strictly over the period it fires once, one period is
subtracted, a rest of a period or more is clamped to 0, so that the same period does not fire again at once. A host pause
(R431; its moment and its open amount are log 35) makes `timerDelta` grow by any amount and touches nothing else, and
after it, too, the timer fires at most once. -/
def Obligations.TimerFiresOnceAndClampsBacklog : Prop :=
  ∀ s : State,
    (s.timerDelta ≤ periodValue s → (timerStep s).2 = false ∧ SameButCalls s (timerStep s).1) ∧
    (periodValue s < s.timerDelta → ∃ t d, timerStep s = (t, true) ∧
      t = { s with timerDelta := d, pending := { s.pending with timer := true },
                   platform := t.platform, draws := t.draws, calls := .timerPeriod (periodValue s) :: s.calls } ∧
      (s.timerDelta < 2 * periodValue s → d = s.timerDelta - periodValue s) ∧
      (2 * periodValue s ≤ s.timerDelta → d = 0) ∧ d ≤ periodValue s) ∧
    (∃ t, hostPause s = t ∧
      t = { s with timerDelta := s.timerDelta + pauseValue s, platform := t.platform, draws := t.draws }) ∧
    (∀ n, ∃ f, pauseValue { s with platform := { s.platform with pauses := f } } = n) ∧
    (periodValue (hostPause s) < s.timerDelta + pauseValue s → (timerStep (hostPause s)).2 = true ∧
      (timerStep (hostPause s)).1.timerDelta ≤ periodValue (hostPause s))

/-- The service step (R414 to R416; the order among the maskable is decision D12, log 23): a maskable source that is
not deliverable is dropped, at most one deliverable source is entered, NMI first, then Timer, IRQ, IRQ2, and the others
stay pending. -/
def Obligations.ServiceEntersTheFirstDeliverable : Prop :=
  ∀ s : State,
    let del := fun src => s.pending.has src &&
      (decide (src = Source.nmi) || (!flag s.p .i && !IrqMask.masked (maskValue s) src))
    let chosen := [Source.nmi, .timer, .irq, .irq2].find? del
    ∃ (u : State) (q : Pending), SameButCalls s u ∧
      (∀ src, q.has src = (del src && decide (chosen ≠ some src))) ∧
      (chosen = none → service s = { u with pending := q }) ∧
      ∀ src, chosen = some src → service s = enter src { u with pending := q }

/-- Interrupt entry (R417, R418; decisions D3, D11, D37, log 18, 20 and 22): PC and P as they stand pushed, D cleared,
I set unless NMI, B and T kept, PC from the source's vector, 7 cycles charged; nothing else changes. -/
def Obligations.InterruptEntrySavesPcAndP : Prop :=
  ∀ (src : Source) (vector : Word),
    (src, vector) ∈ [(Source.irq2, 0xFFF6), (Source.irq, 0xFFF8), (Source.timer, 0xFFFA), (Source.nmi, 0xFFFC)] →
    ∀ s : State, ∃ p' m,
      (let u := { s with sp := s.sp - 3, p := p', mem := m }
       let lo := memRead vector u
       let hi := memRead (vector + 1) lo.2
       enter src s = { hi.2 with pc := hi.1 ++ lo.1, scanCycles := s.scanCycles + 7, timerDelta := s.timerDelta + 7 }) ∧
      Pushed s { s with mem := m } [s.pc.extractLsb' 8 8, s.pc.extractLsb' 0 8, s.p] ∧
      flag p' .d = false ∧ (src ≠ .nmi → flag p' .i = true) ∧ (src = .nmi → flag p' .i = flag s.p .i) ∧
      Keeps s.p p' [.c, .z, .b, .t, .v, .n]

/-- RTI undoes an interrupt entry (R417, R421, R269; decision D11, log 22): if the three stack bytes are still there, PC,
S and P come back, but for B, which RTI forces clear. -/
def Obligations.RtiUndoesInterruptEntry : Prop :=
  ∀ (src : Source) (s r : State), r.sp = (enter src s).sp →
    (∀ n < 3, r.mem.read (stackCell (s.sp - BitVec.ofNat 8 n)) =
      (enter src s).mem.read (stackCell (s.sp - BitVec.ofNat 8 n))) →
    ∃ q, exec .rti r = .next q ∧ q.pc = s.pc ∧ q.sp = s.sp ∧ flag q.p .b = false ∧
      Keeps s.p q.p [.c, .z, .i, .d, .t, .v, .n]
end

