-- ==== Sys2Proof/Laws/PerInstr.lean ====
section
/-! SUPPORT. The family RoundTrip: each well-formed instruction decodes from its own bytes (30_encoding.md R110 to R113),
one lemma a constructor. -/

namespace Sys2Proof.Laws

/-- The two bytes of a word make it again (R84). -/
theorem mkWord_bytes (w : Word) : mkWord (hiByte w) (loByte w) = w := by
  apply BitVec.eq_of_getLsbD_eq
  intro i hi
  simp only [mkWord, hiByte, loByte, BitVec.getLsbD_append, BitVec.getLsbD_extractLsb']
  by_cases h : i < 8
  · simp [h]
  · have h8 : i - 8 < 8 := by omega
    have : 8 + (i - 8) = i := by omega
    simp [h, h8, this]

/-- A displacement that fits is read back from its byte (R112). -/
theorem relByte_toInt (rel : Int) (h : relFits rel = true) : (relByte rel).toInt = rel := by
  simp only [relFits, Bool.and_eq_true, decide_eq_true_eq] at h
  simp only [relByte, BitVec.toInt_ofInt]
  rw [Int.bmod_def]
  simp only [Nat.reducePow, Nat.cast_ofNat]
  split <;> omega

/-- A decoded instruction with the bytes after it. -/
def okWith (i : Instr) (rest : List Byte) : Except DecodeError (Instr × List Byte) := .ok (i, rest)

/-- The three words of a block transfer are read back from their bytes. -/
theorem block_eq (f : Word → Word → Word → Instr) (s d l : Word) (rest : List Byte) :
    okWith (f (mkWord (hiByte s) (loByte s)) (mkWord (hiByte d) (loByte d)) (mkWord (hiByte l) (loByte l))) rest =
      okWith (f s d l) rest := by
  rw [mkWord_bytes, mkWord_bytes, mkWord_bytes]

namespace RoundTrip

/-- A well-formed instruction decodes from its own bytes, whatever follows. -/
def Statement (i : Instr) : Prop :=
  ∀ rest : List Byte, i.wellFormed = true → decode (encode i ++ rest) = .ok (i, rest)

theorem brk : Statement (.brk) := fun _ _ => rfl
theorem oraZpix (z : Byte) : Statement (.oraZpix z) := fun _ _ => rfl
theorem sxy : Statement (.sxy) := fun _ _ => rfl
theorem st0 (v : Byte) : Statement (.st0 v) := fun _ _ => rfl
theorem tsbZp (z : Byte) : Statement (.tsbZp z) := fun _ _ => rfl
theorem oraZp (z : Byte) : Statement (.oraZp z) := fun _ _ => rfl
theorem aslZp (z : Byte) : Statement (.aslZp z) := fun _ _ => rfl
theorem rmb0 (z : Byte) : Statement (.rmb0 z) := fun _ _ => rfl
theorem php : Statement (.php) := fun _ _ => rfl
theorem oraImm (v : Byte) : Statement (.oraImm v) := fun _ _ => rfl
theorem aslAcc : Statement (.aslAcc) := fun _ _ => rfl
theorem undef0B : Statement (.undef0B) := fun _ _ => rfl
theorem tsbAbs (addr : Word) : Statement (.tsbAbs addr) := fun rest _ =>
  congrArg (fun a => okWith (Instr.tsbAbs a) rest) (mkWord_bytes addr)
theorem oraAbs (addr : Word) : Statement (.oraAbs addr) := fun rest _ =>
  congrArg (fun a => okWith (Instr.oraAbs a) rest) (mkWord_bytes addr)
theorem aslAbs (addr : Word) : Statement (.aslAbs addr) := fun rest _ =>
  congrArg (fun a => okWith (Instr.aslAbs a) rest) (mkWord_bytes addr)
theorem bbr0 (z : Byte) (rel : Int) : Statement (.bbr0 z rel) := fun rest h =>
  congrArg (fun a => okWith (Instr.bbr0 z a) rest) (relByte_toInt rel h)
theorem bpl (rel : Int) : Statement (.bpl rel) := fun rest h =>
  congrArg (fun a => okWith (Instr.bpl a) rest) (relByte_toInt rel h)
theorem oraZpiy (z : Byte) : Statement (.oraZpiy z) := fun _ _ => rfl
theorem oraZpi (z : Byte) : Statement (.oraZpi z) := fun _ _ => rfl
theorem st1 (v : Byte) : Statement (.st1 v) := fun _ _ => rfl
theorem trbZp (z : Byte) : Statement (.trbZp z) := fun _ _ => rfl
theorem oraZpx (z : Byte) : Statement (.oraZpx z) := fun _ _ => rfl
theorem aslZpx (z : Byte) : Statement (.aslZpx z) := fun _ _ => rfl
theorem rmb1 (z : Byte) : Statement (.rmb1 z) := fun _ _ => rfl
theorem clc : Statement (.clc) := fun _ _ => rfl
theorem oraAbsy (addr : Word) : Statement (.oraAbsy addr) := fun rest _ =>
  congrArg (fun a => okWith (Instr.oraAbsy a) rest) (mkWord_bytes addr)
theorem incAcc : Statement (.incAcc) := fun _ _ => rfl
theorem undef1B : Statement (.undef1B) := fun _ _ => rfl
theorem trbAbs (addr : Word) : Statement (.trbAbs addr) := fun rest _ =>
  congrArg (fun a => okWith (Instr.trbAbs a) rest) (mkWord_bytes addr)
theorem oraAbsx (addr : Word) : Statement (.oraAbsx addr) := fun rest _ =>
  congrArg (fun a => okWith (Instr.oraAbsx a) rest) (mkWord_bytes addr)
theorem aslAbsx (addr : Word) : Statement (.aslAbsx addr) := fun rest _ =>
  congrArg (fun a => okWith (Instr.aslAbsx a) rest) (mkWord_bytes addr)
theorem bbr1 (z : Byte) (rel : Int) : Statement (.bbr1 z rel) := fun rest h =>
  congrArg (fun a => okWith (Instr.bbr1 z a) rest) (relByte_toInt rel h)
theorem jsr (addr : Word) : Statement (.jsr addr) := fun rest _ =>
  congrArg (fun a => okWith (Instr.jsr a) rest) (mkWord_bytes addr)
theorem andZpix (z : Byte) : Statement (.andZpix z) := fun _ _ => rfl
theorem sax : Statement (.sax) := fun _ _ => rfl
theorem st2 (v : Byte) : Statement (.st2 v) := fun _ _ => rfl
theorem bitZp (z : Byte) : Statement (.bitZp z) := fun _ _ => rfl
theorem andZp (z : Byte) : Statement (.andZp z) := fun _ _ => rfl
theorem rolZp (z : Byte) : Statement (.rolZp z) := fun _ _ => rfl
theorem rmb2 (z : Byte) : Statement (.rmb2 z) := fun _ _ => rfl
theorem plp : Statement (.plp) := fun _ _ => rfl
theorem andImm (v : Byte) : Statement (.andImm v) := fun _ _ => rfl
theorem rolAcc : Statement (.rolAcc) := fun _ _ => rfl
theorem undef2B : Statement (.undef2B) := fun _ _ => rfl
theorem bitAbs (addr : Word) : Statement (.bitAbs addr) := fun rest _ =>
  congrArg (fun a => okWith (Instr.bitAbs a) rest) (mkWord_bytes addr)
theorem andAbs (addr : Word) : Statement (.andAbs addr) := fun rest _ =>
  congrArg (fun a => okWith (Instr.andAbs a) rest) (mkWord_bytes addr)
theorem rolAbs (addr : Word) : Statement (.rolAbs addr) := fun rest _ =>
  congrArg (fun a => okWith (Instr.rolAbs a) rest) (mkWord_bytes addr)
theorem bbr2 (z : Byte) (rel : Int) : Statement (.bbr2 z rel) := fun rest h =>
  congrArg (fun a => okWith (Instr.bbr2 z a) rest) (relByte_toInt rel h)
theorem bmi (rel : Int) : Statement (.bmi rel) := fun rest h =>
  congrArg (fun a => okWith (Instr.bmi a) rest) (relByte_toInt rel h)
theorem andZpiy (z : Byte) : Statement (.andZpiy z) := fun _ _ => rfl
theorem andZpi (z : Byte) : Statement (.andZpi z) := fun _ _ => rfl
theorem undef33 : Statement (.undef33) := fun _ _ => rfl
theorem bitZpx (z : Byte) : Statement (.bitZpx z) := fun _ _ => rfl
theorem andZpx (z : Byte) : Statement (.andZpx z) := fun _ _ => rfl
theorem rolZpx (z : Byte) : Statement (.rolZpx z) := fun _ _ => rfl
theorem rmb3 (z : Byte) : Statement (.rmb3 z) := fun _ _ => rfl
theorem sec : Statement (.sec) := fun _ _ => rfl
theorem andAbsy (addr : Word) : Statement (.andAbsy addr) := fun rest _ =>
  congrArg (fun a => okWith (Instr.andAbsy a) rest) (mkWord_bytes addr)
theorem decAcc : Statement (.decAcc) := fun _ _ => rfl
theorem undef3B : Statement (.undef3B) := fun _ _ => rfl
theorem bitAbsx (addr : Word) : Statement (.bitAbsx addr) := fun rest _ =>
  congrArg (fun a => okWith (Instr.bitAbsx a) rest) (mkWord_bytes addr)
theorem andAbsx (addr : Word) : Statement (.andAbsx addr) := fun rest _ =>
  congrArg (fun a => okWith (Instr.andAbsx a) rest) (mkWord_bytes addr)
theorem rolAbsx (addr : Word) : Statement (.rolAbsx addr) := fun rest _ =>
  congrArg (fun a => okWith (Instr.rolAbsx a) rest) (mkWord_bytes addr)
theorem bbr3 (z : Byte) (rel : Int) : Statement (.bbr3 z rel) := fun rest h =>
  congrArg (fun a => okWith (Instr.bbr3 z a) rest) (relByte_toInt rel h)
theorem rti : Statement (.rti) := fun _ _ => rfl
theorem eorZpix (z : Byte) : Statement (.eorZpix z) := fun _ _ => rfl
theorem say : Statement (.say) := fun _ _ => rfl
theorem tma (v : Byte) : Statement (.tma v) := fun _ _ => rfl
theorem bsr (rel : Int) : Statement (.bsr rel) := fun rest h =>
  congrArg (fun a => okWith (Instr.bsr a) rest) (relByte_toInt rel h)
theorem eorZp (z : Byte) : Statement (.eorZp z) := fun _ _ => rfl
theorem lsrZp (z : Byte) : Statement (.lsrZp z) := fun _ _ => rfl
theorem rmb4 (z : Byte) : Statement (.rmb4 z) := fun _ _ => rfl
theorem pha : Statement (.pha) := fun _ _ => rfl
theorem eorImm (v : Byte) : Statement (.eorImm v) := fun _ _ => rfl
theorem lsrAcc : Statement (.lsrAcc) := fun _ _ => rfl
theorem undef4B : Statement (.undef4B) := fun _ _ => rfl
theorem jmpAbs (addr : Word) : Statement (.jmpAbs addr) := fun rest _ =>
  congrArg (fun a => okWith (Instr.jmpAbs a) rest) (mkWord_bytes addr)
theorem eorAbs (addr : Word) : Statement (.eorAbs addr) := fun rest _ =>
  congrArg (fun a => okWith (Instr.eorAbs a) rest) (mkWord_bytes addr)
theorem lsrAbs (addr : Word) : Statement (.lsrAbs addr) := fun rest _ =>
  congrArg (fun a => okWith (Instr.lsrAbs a) rest) (mkWord_bytes addr)
theorem bbr4 (z : Byte) (rel : Int) : Statement (.bbr4 z rel) := fun rest h =>
  congrArg (fun a => okWith (Instr.bbr4 z a) rest) (relByte_toInt rel h)
theorem bvc (rel : Int) : Statement (.bvc rel) := fun rest h =>
  congrArg (fun a => okWith (Instr.bvc a) rest) (relByte_toInt rel h)
theorem eorZpiy (z : Byte) : Statement (.eorZpiy z) := fun _ _ => rfl
theorem eorZpi (z : Byte) : Statement (.eorZpi z) := fun _ _ => rfl
theorem tam (v : Byte) : Statement (.tam v) := fun _ _ => rfl
theorem csl : Statement (.csl) := fun _ _ => rfl
theorem eorZpx (z : Byte) : Statement (.eorZpx z) := fun _ _ => rfl
theorem lsrZpx (z : Byte) : Statement (.lsrZpx z) := fun _ _ => rfl
theorem rmb5 (z : Byte) : Statement (.rmb5 z) := fun _ _ => rfl
theorem cli : Statement (.cli) := fun _ _ => rfl
theorem eorAbsy (addr : Word) : Statement (.eorAbsy addr) := fun rest _ =>
  congrArg (fun a => okWith (Instr.eorAbsy a) rest) (mkWord_bytes addr)
theorem phy : Statement (.phy) := fun _ _ => rfl
theorem undef5B : Statement (.undef5B) := fun _ _ => rfl
theorem undef5C : Statement (.undef5C) := fun _ _ => rfl
theorem eorAbsx (addr : Word) : Statement (.eorAbsx addr) := fun rest _ =>
  congrArg (fun a => okWith (Instr.eorAbsx a) rest) (mkWord_bytes addr)
theorem lsrAbsx (addr : Word) : Statement (.lsrAbsx addr) := fun rest _ =>
  congrArg (fun a => okWith (Instr.lsrAbsx a) rest) (mkWord_bytes addr)
theorem bbr5 (z : Byte) (rel : Int) : Statement (.bbr5 z rel) := fun rest h =>
  congrArg (fun a => okWith (Instr.bbr5 z a) rest) (relByte_toInt rel h)
theorem rts : Statement (.rts) := fun _ _ => rfl
theorem adcZpix (z : Byte) : Statement (.adcZpix z) := fun _ _ => rfl
theorem cla : Statement (.cla) := fun _ _ => rfl
theorem undef63 : Statement (.undef63) := fun _ _ => rfl
theorem stzZp (z : Byte) : Statement (.stzZp z) := fun _ _ => rfl
theorem adcZp (z : Byte) : Statement (.adcZp z) := fun _ _ => rfl
theorem rorZp (z : Byte) : Statement (.rorZp z) := fun _ _ => rfl
theorem rmb6 (z : Byte) : Statement (.rmb6 z) := fun _ _ => rfl
theorem pla : Statement (.pla) := fun _ _ => rfl
theorem adcImm (v : Byte) : Statement (.adcImm v) := fun _ _ => rfl
theorem rorAcc : Statement (.rorAcc) := fun _ _ => rfl
theorem undef6B : Statement (.undef6B) := fun _ _ => rfl
theorem jmpInd (addr : Word) : Statement (.jmpInd addr) := fun rest _ =>
  congrArg (fun a => okWith (Instr.jmpInd a) rest) (mkWord_bytes addr)
theorem adcAbs (addr : Word) : Statement (.adcAbs addr) := fun rest _ =>
  congrArg (fun a => okWith (Instr.adcAbs a) rest) (mkWord_bytes addr)
theorem rorAbs (addr : Word) : Statement (.rorAbs addr) := fun rest _ =>
  congrArg (fun a => okWith (Instr.rorAbs a) rest) (mkWord_bytes addr)
theorem bbr6 (z : Byte) (rel : Int) : Statement (.bbr6 z rel) := fun rest h =>
  congrArg (fun a => okWith (Instr.bbr6 z a) rest) (relByte_toInt rel h)
theorem bvs (rel : Int) : Statement (.bvs rel) := fun rest h =>
  congrArg (fun a => okWith (Instr.bvs a) rest) (relByte_toInt rel h)
theorem adcZpiy (z : Byte) : Statement (.adcZpiy z) := fun _ _ => rfl
theorem adcZpi (z : Byte) : Statement (.adcZpi z) := fun _ _ => rfl
theorem tii (src : Word) (dst : Word) (len : Word) : Statement (.tii src dst len) := fun rest _ =>
  block_eq (Instr.tii) src dst len rest
theorem stzZpx (z : Byte) : Statement (.stzZpx z) := fun _ _ => rfl
theorem adcZpx (z : Byte) : Statement (.adcZpx z) := fun _ _ => rfl
theorem rorZpx (z : Byte) : Statement (.rorZpx z) := fun _ _ => rfl
theorem rmb7 (z : Byte) : Statement (.rmb7 z) := fun _ _ => rfl
theorem sei : Statement (.sei) := fun _ _ => rfl
theorem adcAbsy (addr : Word) : Statement (.adcAbsy addr) := fun rest _ =>
  congrArg (fun a => okWith (Instr.adcAbsy a) rest) (mkWord_bytes addr)
theorem ply : Statement (.ply) := fun _ _ => rfl
theorem undef7B : Statement (.undef7B) := fun _ _ => rfl
theorem jmpIndx (addr : Word) : Statement (.jmpIndx addr) := fun rest _ =>
  congrArg (fun a => okWith (Instr.jmpIndx a) rest) (mkWord_bytes addr)
theorem adcAbsx (addr : Word) : Statement (.adcAbsx addr) := fun rest _ =>
  congrArg (fun a => okWith (Instr.adcAbsx a) rest) (mkWord_bytes addr)
theorem rorAbsx (addr : Word) : Statement (.rorAbsx addr) := fun rest _ =>
  congrArg (fun a => okWith (Instr.rorAbsx a) rest) (mkWord_bytes addr)
theorem bbr7 (z : Byte) (rel : Int) : Statement (.bbr7 z rel) := fun rest h =>
  congrArg (fun a => okWith (Instr.bbr7 z a) rest) (relByte_toInt rel h)
theorem bra (rel : Int) : Statement (.bra rel) := fun rest h =>
  congrArg (fun a => okWith (Instr.bra a) rest) (relByte_toInt rel h)
theorem staZpix (z : Byte) : Statement (.staZpix z) := fun _ _ => rfl
theorem clx : Statement (.clx) := fun _ _ => rfl
theorem tstZp (v : Byte) (z : Byte) : Statement (.tstZp v z) := fun _ _ => rfl
theorem styZp (z : Byte) : Statement (.styZp z) := fun _ _ => rfl
theorem staZp (z : Byte) : Statement (.staZp z) := fun _ _ => rfl
theorem stxZp (z : Byte) : Statement (.stxZp z) := fun _ _ => rfl
theorem smb0 (z : Byte) : Statement (.smb0 z) := fun _ _ => rfl
theorem dey : Statement (.dey) := fun _ _ => rfl
theorem bitImm (v : Byte) : Statement (.bitImm v) := fun _ _ => rfl
theorem txa : Statement (.txa) := fun _ _ => rfl
theorem undef8B : Statement (.undef8B) := fun _ _ => rfl
theorem styAbs (addr : Word) : Statement (.styAbs addr) := fun rest _ =>
  congrArg (fun a => okWith (Instr.styAbs a) rest) (mkWord_bytes addr)
theorem staAbs (addr : Word) : Statement (.staAbs addr) := fun rest _ =>
  congrArg (fun a => okWith (Instr.staAbs a) rest) (mkWord_bytes addr)
theorem stxAbs (addr : Word) : Statement (.stxAbs addr) := fun rest _ =>
  congrArg (fun a => okWith (Instr.stxAbs a) rest) (mkWord_bytes addr)
theorem bbs0 (z : Byte) (rel : Int) : Statement (.bbs0 z rel) := fun rest h =>
  congrArg (fun a => okWith (Instr.bbs0 z a) rest) (relByte_toInt rel h)
theorem bcc (rel : Int) : Statement (.bcc rel) := fun rest h =>
  congrArg (fun a => okWith (Instr.bcc a) rest) (relByte_toInt rel h)
theorem staZpiy (z : Byte) : Statement (.staZpiy z) := fun _ _ => rfl
theorem staZpi (z : Byte) : Statement (.staZpi z) := fun _ _ => rfl
theorem tstAbs (v : Byte) (addr : Word) : Statement (.tstAbs v addr) := fun rest _ =>
  congrArg (fun a => okWith (Instr.tstAbs v a) rest) (mkWord_bytes addr)
theorem styZpx (z : Byte) : Statement (.styZpx z) := fun _ _ => rfl
theorem staZpx (z : Byte) : Statement (.staZpx z) := fun _ _ => rfl
theorem stxZpy (z : Byte) : Statement (.stxZpy z) := fun _ _ => rfl
theorem smb1 (z : Byte) : Statement (.smb1 z) := fun _ _ => rfl
theorem tya : Statement (.tya) := fun _ _ => rfl
theorem staAbsy (addr : Word) : Statement (.staAbsy addr) := fun rest _ =>
  congrArg (fun a => okWith (Instr.staAbsy a) rest) (mkWord_bytes addr)
theorem txs : Statement (.txs) := fun _ _ => rfl
theorem undef9B : Statement (.undef9B) := fun _ _ => rfl
theorem stzAbs (addr : Word) : Statement (.stzAbs addr) := fun rest _ =>
  congrArg (fun a => okWith (Instr.stzAbs a) rest) (mkWord_bytes addr)
theorem staAbsx (addr : Word) : Statement (.staAbsx addr) := fun rest _ =>
  congrArg (fun a => okWith (Instr.staAbsx a) rest) (mkWord_bytes addr)
theorem stzAbsx (addr : Word) : Statement (.stzAbsx addr) := fun rest _ =>
  congrArg (fun a => okWith (Instr.stzAbsx a) rest) (mkWord_bytes addr)
theorem bbs1 (z : Byte) (rel : Int) : Statement (.bbs1 z rel) := fun rest h =>
  congrArg (fun a => okWith (Instr.bbs1 z a) rest) (relByte_toInt rel h)
theorem ldyImm (v : Byte) : Statement (.ldyImm v) := fun _ _ => rfl
theorem ldaZpix (z : Byte) : Statement (.ldaZpix z) := fun _ _ => rfl
theorem ldxImm (v : Byte) : Statement (.ldxImm v) := fun _ _ => rfl
theorem tstZpx (v : Byte) (z : Byte) : Statement (.tstZpx v z) := fun _ _ => rfl
theorem ldyZp (z : Byte) : Statement (.ldyZp z) := fun _ _ => rfl
theorem ldaZp (z : Byte) : Statement (.ldaZp z) := fun _ _ => rfl
theorem ldxZp (z : Byte) : Statement (.ldxZp z) := fun _ _ => rfl
theorem smb2 (z : Byte) : Statement (.smb2 z) := fun _ _ => rfl
theorem tay : Statement (.tay) := fun _ _ => rfl
theorem ldaImm (v : Byte) : Statement (.ldaImm v) := fun _ _ => rfl
theorem tax : Statement (.tax) := fun _ _ => rfl
theorem undefAB : Statement (.undefAB) := fun _ _ => rfl
theorem ldyAbs (addr : Word) : Statement (.ldyAbs addr) := fun rest _ =>
  congrArg (fun a => okWith (Instr.ldyAbs a) rest) (mkWord_bytes addr)
theorem ldaAbs (addr : Word) : Statement (.ldaAbs addr) := fun rest _ =>
  congrArg (fun a => okWith (Instr.ldaAbs a) rest) (mkWord_bytes addr)
theorem ldxAbs (addr : Word) : Statement (.ldxAbs addr) := fun rest _ =>
  congrArg (fun a => okWith (Instr.ldxAbs a) rest) (mkWord_bytes addr)
theorem bbs2 (z : Byte) (rel : Int) : Statement (.bbs2 z rel) := fun rest h =>
  congrArg (fun a => okWith (Instr.bbs2 z a) rest) (relByte_toInt rel h)
theorem bcs (rel : Int) : Statement (.bcs rel) := fun rest h =>
  congrArg (fun a => okWith (Instr.bcs a) rest) (relByte_toInt rel h)
theorem ldaZpiy (z : Byte) : Statement (.ldaZpiy z) := fun _ _ => rfl
theorem ldaZpi (z : Byte) : Statement (.ldaZpi z) := fun _ _ => rfl
theorem tstAbsx (v : Byte) (addr : Word) : Statement (.tstAbsx v addr) := fun rest _ =>
  congrArg (fun a => okWith (Instr.tstAbsx v a) rest) (mkWord_bytes addr)
theorem ldyZpx (z : Byte) : Statement (.ldyZpx z) := fun _ _ => rfl
theorem ldaZpx (z : Byte) : Statement (.ldaZpx z) := fun _ _ => rfl
theorem ldxZpy (z : Byte) : Statement (.ldxZpy z) := fun _ _ => rfl
theorem smb3 (z : Byte) : Statement (.smb3 z) := fun _ _ => rfl
theorem clv : Statement (.clv) := fun _ _ => rfl
theorem ldaAbsy (addr : Word) : Statement (.ldaAbsy addr) := fun rest _ =>
  congrArg (fun a => okWith (Instr.ldaAbsy a) rest) (mkWord_bytes addr)
theorem tsx : Statement (.tsx) := fun _ _ => rfl
theorem undefBB : Statement (.undefBB) := fun _ _ => rfl
theorem ldyAbsx (addr : Word) : Statement (.ldyAbsx addr) := fun rest _ =>
  congrArg (fun a => okWith (Instr.ldyAbsx a) rest) (mkWord_bytes addr)
theorem ldaAbsx (addr : Word) : Statement (.ldaAbsx addr) := fun rest _ =>
  congrArg (fun a => okWith (Instr.ldaAbsx a) rest) (mkWord_bytes addr)
theorem ldxAbsy (addr : Word) : Statement (.ldxAbsy addr) := fun rest _ =>
  congrArg (fun a => okWith (Instr.ldxAbsy a) rest) (mkWord_bytes addr)
theorem bbs3 (z : Byte) (rel : Int) : Statement (.bbs3 z rel) := fun rest h =>
  congrArg (fun a => okWith (Instr.bbs3 z a) rest) (relByte_toInt rel h)
theorem cpyImm (v : Byte) : Statement (.cpyImm v) := fun _ _ => rfl
theorem cmpZpix (z : Byte) : Statement (.cmpZpix z) := fun _ _ => rfl
theorem cly : Statement (.cly) := fun _ _ => rfl
theorem tdd (src : Word) (dst : Word) (len : Word) : Statement (.tdd src dst len) := fun rest _ =>
  block_eq (Instr.tdd) src dst len rest
theorem cpyZp (z : Byte) : Statement (.cpyZp z) := fun _ _ => rfl
theorem cmpZp (z : Byte) : Statement (.cmpZp z) := fun _ _ => rfl
theorem decZp (z : Byte) : Statement (.decZp z) := fun _ _ => rfl
theorem smb4 (z : Byte) : Statement (.smb4 z) := fun _ _ => rfl
theorem iny : Statement (.iny) := fun _ _ => rfl
theorem cmpImm (v : Byte) : Statement (.cmpImm v) := fun _ _ => rfl
theorem dex : Statement (.dex) := fun _ _ => rfl
theorem undefCB : Statement (.undefCB) := fun _ _ => rfl
theorem cpyAbs (addr : Word) : Statement (.cpyAbs addr) := fun rest _ =>
  congrArg (fun a => okWith (Instr.cpyAbs a) rest) (mkWord_bytes addr)
theorem cmpAbs (addr : Word) : Statement (.cmpAbs addr) := fun rest _ =>
  congrArg (fun a => okWith (Instr.cmpAbs a) rest) (mkWord_bytes addr)
theorem decAbs (addr : Word) : Statement (.decAbs addr) := fun rest _ =>
  congrArg (fun a => okWith (Instr.decAbs a) rest) (mkWord_bytes addr)
theorem bbs4 (z : Byte) (rel : Int) : Statement (.bbs4 z rel) := fun rest h =>
  congrArg (fun a => okWith (Instr.bbs4 z a) rest) (relByte_toInt rel h)
theorem bne (rel : Int) : Statement (.bne rel) := fun rest h =>
  congrArg (fun a => okWith (Instr.bne a) rest) (relByte_toInt rel h)
theorem cmpZpiy (z : Byte) : Statement (.cmpZpiy z) := fun _ _ => rfl
theorem cmpZpi (z : Byte) : Statement (.cmpZpi z) := fun _ _ => rfl
theorem tin (src : Word) (dst : Word) (len : Word) : Statement (.tin src dst len) := fun rest _ =>
  block_eq (Instr.tin) src dst len rest
theorem csh : Statement (.csh) := fun _ _ => rfl
theorem cmpZpx (z : Byte) : Statement (.cmpZpx z) := fun _ _ => rfl
theorem decZpx (z : Byte) : Statement (.decZpx z) := fun _ _ => rfl
theorem smb5 (z : Byte) : Statement (.smb5 z) := fun _ _ => rfl
theorem cld : Statement (.cld) := fun _ _ => rfl
theorem cmpAbsy (addr : Word) : Statement (.cmpAbsy addr) := fun rest _ =>
  congrArg (fun a => okWith (Instr.cmpAbsy a) rest) (mkWord_bytes addr)
theorem phx : Statement (.phx) := fun _ _ => rfl
theorem undefDB : Statement (.undefDB) := fun _ _ => rfl
theorem undefDC : Statement (.undefDC) := fun _ _ => rfl
theorem cmpAbsx (addr : Word) : Statement (.cmpAbsx addr) := fun rest _ =>
  congrArg (fun a => okWith (Instr.cmpAbsx a) rest) (mkWord_bytes addr)
theorem decAbsx (addr : Word) : Statement (.decAbsx addr) := fun rest _ =>
  congrArg (fun a => okWith (Instr.decAbsx a) rest) (mkWord_bytes addr)
theorem bbs5 (z : Byte) (rel : Int) : Statement (.bbs5 z rel) := fun rest h =>
  congrArg (fun a => okWith (Instr.bbs5 z a) rest) (relByte_toInt rel h)
theorem cpxImm (v : Byte) : Statement (.cpxImm v) := fun _ _ => rfl
theorem sbcZpix (z : Byte) : Statement (.sbcZpix z) := fun _ _ => rfl
theorem undefE2 : Statement (.undefE2) := fun _ _ => rfl
theorem tia (src : Word) (dst : Word) (len : Word) : Statement (.tia src dst len) := fun rest _ =>
  block_eq (Instr.tia) src dst len rest
theorem cpxZp (z : Byte) : Statement (.cpxZp z) := fun _ _ => rfl
theorem sbcZp (z : Byte) : Statement (.sbcZp z) := fun _ _ => rfl
theorem incZp (z : Byte) : Statement (.incZp z) := fun _ _ => rfl
theorem smb6 (z : Byte) : Statement (.smb6 z) := fun _ _ => rfl
theorem inx : Statement (.inx) := fun _ _ => rfl
theorem sbcImm (v : Byte) : Statement (.sbcImm v) := fun _ _ => rfl
theorem nop : Statement (.nop) := fun _ _ => rfl
theorem undefEB : Statement (.undefEB) := fun _ _ => rfl
theorem cpxAbs (addr : Word) : Statement (.cpxAbs addr) := fun rest _ =>
  congrArg (fun a => okWith (Instr.cpxAbs a) rest) (mkWord_bytes addr)
theorem sbcAbs (addr : Word) : Statement (.sbcAbs addr) := fun rest _ =>
  congrArg (fun a => okWith (Instr.sbcAbs a) rest) (mkWord_bytes addr)
theorem incAbs (addr : Word) : Statement (.incAbs addr) := fun rest _ =>
  congrArg (fun a => okWith (Instr.incAbs a) rest) (mkWord_bytes addr)
theorem bbs6 (z : Byte) (rel : Int) : Statement (.bbs6 z rel) := fun rest h =>
  congrArg (fun a => okWith (Instr.bbs6 z a) rest) (relByte_toInt rel h)
theorem beq (rel : Int) : Statement (.beq rel) := fun rest h =>
  congrArg (fun a => okWith (Instr.beq a) rest) (relByte_toInt rel h)
theorem sbcZpiy (z : Byte) : Statement (.sbcZpiy z) := fun _ _ => rfl
theorem sbcZpi (z : Byte) : Statement (.sbcZpi z) := fun _ _ => rfl
theorem tai (src : Word) (dst : Word) (len : Word) : Statement (.tai src dst len) := fun rest _ =>
  block_eq (Instr.tai) src dst len rest
theorem set : Statement (.set) := fun _ _ => rfl
theorem sbcZpx (z : Byte) : Statement (.sbcZpx z) := fun _ _ => rfl
theorem incZpx (z : Byte) : Statement (.incZpx z) := fun _ _ => rfl
theorem smb7 (z : Byte) : Statement (.smb7 z) := fun _ _ => rfl
theorem sed : Statement (.sed) := fun _ _ => rfl
theorem sbcAbsy (addr : Word) : Statement (.sbcAbsy addr) := fun rest _ =>
  congrArg (fun a => okWith (Instr.sbcAbsy a) rest) (mkWord_bytes addr)
theorem plx : Statement (.plx) := fun _ _ => rfl
theorem undefFB : Statement (.undefFB) := fun _ _ => rfl
theorem undefFC : Statement (.undefFC) := fun _ _ => rfl
theorem sbcAbsx (addr : Word) : Statement (.sbcAbsx addr) := fun rest _ =>
  congrArg (fun a => okWith (Instr.sbcAbsx a) rest) (mkWord_bytes addr)
theorem incAbsx (addr : Word) : Statement (.incAbsx addr) := fun rest _ =>
  congrArg (fun a => okWith (Instr.incAbsx a) rest) (mkWord_bytes addr)
theorem bbs7 (z : Byte) (rel : Int) : Statement (.bbs7 z rel) := fun rest h =>
  congrArg (fun a => okWith (Instr.bbs7 z a) rest) (relByte_toInt rel h)

end RoundTrip

/-- Every row of the opcode map is full, so `formOf`'s defaults are never taken (R113). -/
theorem opcodeMap_full : opcodeMap.map List.length = List.replicate 16 16 := by decide

end Sys2Proof.Laws
end

