-- ==== Sys2Proof/Laws/Decode.lean ====
section
/-! SUPPORT. The opcode map against the encoder: what an entry of `formOf` promises of the instructions it makes, and the
length of an instruction by its opcode byte alone (30_encoding.md R113, R114). -/

namespace Sys2Proof.Laws

/-- The instructions an entry of the opcode map makes are well formed and encode to that opcode and their operands. -/
inductive FormOk (op : Byte) : Form → Prop
  | imp {i} : i.wellFormed = true → encode i = [op] → FormOk op (.imp i)
  | byte {f} : (∀ z, (f z).wellFormed = true) → (∀ z, encode (f z) = [op, z]) → FormOk op (.byte f)
  | rel {f} : (∀ r, (f r).wellFormed = relFits r) → (∀ r, encode (f r) = [op, relByte r]) → FormOk op (.rel f)
  | word {f} : (∀ w, (f w).wellFormed = true) → (∀ w, encode (f w) = op :: wordBytes w) → FormOk op (.word f)
  | zpRel {f} : (∀ z r, (f z r).wellFormed = relFits r) → (∀ z r, encode (f z r) = [op, z, relByte r]) →
      FormOk op (.zpRel f)
  | immByte {f} : (∀ v z, (f v z).wellFormed = true) → (∀ v z, encode (f v z) = [op, v, z]) → FormOk op (.immByte f)
  | immWord {f} : (∀ v w, (f v w).wellFormed = true) → (∀ v w, encode (f v w) = op :: v :: wordBytes w) →
      FormOk op (.immWord f)
  | block {f} : (∀ a b c, (f a b c).wellFormed = true) →
      (∀ a b c, encode (f a b c) = op :: (wordBytes a ++ wordBytes b ++ wordBytes c)) → FormOk op (.block f)

/-- Every entry of the opcode map agrees with the encoder. -/
theorem formOk (op : Byte) : FormOk op (formOf op) := by
  obtain ⟨⟨n, hn⟩⟩ := op
  simp only [Nat.reducePow] at hn
  interval_cases n <;>
    simp only [formOf, BitVec.toNat_ofFin, Nat.reduceDiv, Nat.reduceMod, opcodeMap, opcodeRow0, opcodeRow1, opcodeRow2, opcodeRow3, opcodeRow4, opcodeRow5, opcodeRow6, opcodeRow7,
      opcodeRow8, opcodeRow9, opcodeRowA, opcodeRowB, opcodeRowC, opcodeRowD, opcodeRowE, opcodeRowF,
      List.cons_append, List.nil_append, List.getD_cons_zero, List.getD_cons_succ] <;>
    first
    | exact .imp rfl rfl
    | (apply FormOk.byte <;> intros <;> rfl)
    | (apply FormOk.rel <;> intros <;> rfl)
    | (apply FormOk.word <;> intros <;> rfl)
    | (apply FormOk.zpRel <;> intros <;> rfl)
    | (apply FormOk.immByte <;> intros <;> rfl)
    | (apply FormOk.immWord <;> intros <;> rfl)
    | (apply FormOk.block <;> intros <;> rfl)

/-- Every byte is a displacement that fits (R112). -/
theorem relFits_toInt (b : Byte) : relFits b.toInt = true := by
  have := b.isLt
  simp only [relFits, BitVec.toInt, Bool.and_eq_true, decide_eq_true_eq]
  split <;> omega

theorem relByte_of_toInt (b : Byte) : relByte b.toInt = b := by simp [relByte]

/-- A word made of two bytes gives them back, low first (R84). -/
theorem wordBytes_mkWord (hi lo : Byte) : wordBytes (mkWord hi lo) = [lo, hi] := by
  simp only [wordBytes, loByte, hiByte, mkWord]
  congr 1
  · apply BitVec.eq_of_getLsbD_eq
    intro i hi
    simp only [BitVec.getLsbD_extractLsb', BitVec.getLsbD_append, hi, decide_true, Bool.true_and]
    simp (disch := omega) [hi]
  · congr 1
    apply BitVec.eq_of_getLsbD_eq
    intro i hi
    simp only [BitVec.getLsbD_extractLsb', BitVec.getLsbD_append, hi, decide_true, Bool.true_and]
    simp (disch := omega)

/-- An encoding is an opcode byte and as many operand bytes as that byte alone says (R114). -/
theorem encode_length (i : Instr) : ∃ op bs, encode i = op :: bs ∧ instrLength op - 1 = bs.length := by
  cases i <;> exact ⟨_, _, rfl, rfl⟩

/-- Operand bytes of the right number parse, none left over. -/
theorem parse_ok (op : Byte) (F : Form) (r : List Byte) (h : r.length = F.length - 1) :
    ∃ i, F.parse op r = .ok (i, []) := by
  cases F <;> simp only [Form.length, Nat.add_one_sub_one, Nat.sub_self, List.length_eq_zero_iff] at h
  · subst h; exact ⟨_, rfl⟩
  · obtain ⟨a, rfl⟩ := List.length_eq_one_iff.1 h; exact ⟨_, rfl⟩
  · obtain ⟨a, rfl⟩ := List.length_eq_one_iff.1 h; exact ⟨_, rfl⟩
  · obtain ⟨a, b, rfl⟩ := List.length_eq_two.1 h; exact ⟨_, rfl⟩
  · obtain ⟨a, b, rfl⟩ := List.length_eq_two.1 h; exact ⟨_, rfl⟩
  · obtain ⟨a, b, rfl⟩ := List.length_eq_two.1 h; exact ⟨_, rfl⟩
  · obtain ⟨a, b, c, rfl⟩ := List.length_eq_three.1 h; exact ⟨_, rfl⟩
  · match r, h with
    | [a, b, c, d, e, f], _ => exact ⟨_, rfl⟩

end Sys2Proof.Laws
end

