-- ==== Sys2Proof/Laws/Flags.lean ====
section
/-! SUPPORT. Reading a flag after writing one, and the flags each computation leaves. -/

namespace Sys2Proof.Machine

theorem Flag.bit_lt (f : Flag) : f.bit < 8 := by cases f <;> decide

theorem Flag.bit_inj {f g : Flag} : f.bit = g.bit ↔ f = g := by cases f <;> cases g <;> decide

theorem Flag.getLsbD_mask (f : Flag) (n : Nat) : f.mask.getLsbD n = (decide (n < 8) && decide (n = f.bit)) := by
  have hb := f.bit_lt
  simp only [Flag.mask, BitVec.getLsbD_shiftLeft, BitVec.getLsbD_one]
  by_cases h : n = f.bit
  · subst h; simp [hb]
  · by_cases hn : n < f.bit
    · simp [h, hn]
    · have : ¬ n - f.bit = 0 := by omega
      simp [h, this]

/-- A flag after a flag was written: the written one has the value, the others are unchanged. -/
@[simp] theorem flag_setFlag (p : Byte) (f g : Flag) (v : Bool) :
    flag (setFlag p f v) g = if g = f then v else flag p g := by
  unfold flag setFlag
  cases v <;> by_cases h : g = f <;>
    simp only [BitVec.getLsbD_and, BitVec.getLsbD_or, BitVec.getLsbD_not, Flag.getLsbD_mask, g.bit_lt, f.bit_lt, h, Flag.bit_inj,
      Bool.false_eq_true, if_true, if_false, decide_true, decide_false, Bool.and_true, Bool.and_false,
      Bool.not_true, Bool.not_false, Bool.or_true, Bool.or_false]

/-- P is its eight flags: equal flags, equal bytes (R45). -/
theorem eq_of_flags {p q : Byte} (h : ∀ f, flag p f = flag q f) : p = q := by
  apply BitVec.eq_of_getLsbD_eq
  intro i hi
  match i, hi with
  | 0, _ => exact h .c
  | 1, _ => exact h .z
  | 2, _ => exact h .i
  | 3, _ => exact h .d
  | 4, _ => exact h .b
  | 5, _ => exact h .t
  | 6, _ => exact h .v
  | 7, _ => exact h .n

/-- The flags `setNZ` leaves (R14). -/
theorem flag_setNZ (v p : Byte) (f : Flag) : flag (setNZ v p) f =
    (match f with
     | .z => v == 0
     | .n => v.getLsbD 7
     | .t => false
     | .c | .i | .d | .b | .v => flag p f) := by
  cases f <;> simp [setNZ]

/-- The flags `setNVZ` leaves (R210). -/
theorem flag_setNVZ (m : Byte) (z : Bool) (p : Byte) (f : Flag) : flag (setNVZ m z p) f =
    (match f with
     | .n => m.getLsbD 7
     | .v => m.getLsbD 6
     | .z => z
     | .t => false
     | .c | .i | .d | .b => flag p f) := by
  cases f <;> simp [setNVZ]

end Sys2Proof.Machine
end

