-- ==== Sys2Proof/Laws/Memory.lean ====
section
/-! SUPPORT. The laws of the buffer memory: read after write, other bytes untouched, canonical form kept. -/

namespace Sys2Proof.Machine

open Sys2Proof.Config

theorem Memory.read_erase_same (m : Memory) (k : Nat) : (Memory.erase m k).read k = memoryFill := by
  induction m with
  | nil => rfl
  | cons c m ih =>
    obtain ⟨k', v⟩ := c
    by_cases h : k' = k
    · simpa [Memory.erase, h] using ih
    · simpa [Memory.erase, Memory.read, h] using ih

theorem Memory.read_erase_other (m : Memory) {k j : Nat} (h : j ≠ k) : (Memory.erase m k).read j = Memory.read m j := by
  induction m with
  | nil => rfl
  | cons c m ih =>
    obtain ⟨k', v⟩ := c
    by_cases hk : k' = k
    · have : ¬ k = j := fun e => h e.symm
      simp [Memory.erase, Memory.read, hk, this, ih]
    · simp [Memory.erase, Memory.read, hk, ih]

theorem Memory.read_insert_other (m : Memory) {k j : Nat} (v : Byte) (h : j ≠ k) :
    (Memory.insert m k v).read j = Memory.read m j := by
  have hk : ¬ k = j := fun e => h e.symm
  induction m with
  | nil => simp [Memory.insert, Memory.read, hk]
  | cons c m ih =>
    obtain ⟨k', w⟩ := c
    by_cases hlt : k < k'
    · simp [Memory.insert, Memory.read, hlt, hk]
    · simp [Memory.insert, Memory.read, hlt, ih]

/-- An inserted entry is found where the memory held none before it. -/
theorem Memory.read_insert_erase (m : Memory) (k : Nat) (v : Byte) :
    (Memory.insert (Memory.erase m k) k v).read k = v := by
  induction m with
  | nil => simp [Memory.erase, Memory.insert, Memory.read]
  | cons c m ih =>
    obtain ⟨k', w⟩ := c
    by_cases hk : k' = k
    · simpa [Memory.erase, hk] using ih
    · by_cases hlt : k < k'
      · simp [Memory.erase, Memory.insert, Memory.read, hk, hlt]
      · simpa [Memory.erase, Memory.insert, Memory.read, hk, hlt] using ih

/-- Read after write to the same place, in every memory. -/
@[simp] theorem Memory.read_write_same (m : Memory) (k : Nat) (v : Byte) : (m.write k v).read k = v := by
  unfold Memory.write
  split
  · next h => rw [Memory.read_erase_same, h]
  · exact Memory.read_insert_erase m k v

/-- A write leaves every other place alone, in every memory. -/
theorem Memory.read_write_other (m : Memory) {k j : Nat} (v : Byte) (h : j ≠ k) :
    (m.write k v).read j = Memory.read m j := by
  unfold Memory.write
  split
  · exact Memory.read_erase_other m h
  · rw [Memory.read_insert_other _ v h, Memory.read_erase_other m h]

theorem Memory.read_writeAll_other (cs : List Host.Cell) (m : Memory) (k : Nat) (h : ∀ c ∈ cs, c.1 ≠ k) :
    (m.writeAll cs).read k = Memory.read m k := by
  induction cs generalizing m with
  | nil => rfl
  | cons c cs ih =>
    obtain ⟨j, v⟩ := c
    have hj : k ≠ j := fun e => h (j, v) List.mem_cons_self e.symm
    simp only [Memory.writeAll]
    rw [ih _ fun c hc => h c (List.mem_cons_of_mem _ hc), Memory.read_write_other m v hj]

/-! ## The canonical form -/

theorem Memory.mem_of_mem_erase (m : Memory) (k : Nat) {c : Host.Cell} (h : c ∈ Memory.erase m k) : c ∈ m := by
  induction m with
  | nil => exact h
  | cons d m ih =>
    obtain ⟨k', v⟩ := d
    unfold Memory.erase at h
    split at h
    · exact List.mem_cons_of_mem _ (ih h)
    · rcases List.mem_cons.1 h with rfl | h
      · exact List.mem_cons_self
      · exact List.mem_cons_of_mem _ (ih h)

theorem Memory.erase_key_ne (m : Memory) (k : Nat) {c : Host.Cell} (h : c ∈ Memory.erase m k) : c.1 ≠ k := by
  induction m with
  | nil => simp [Memory.erase] at h
  | cons d m ih =>
    obtain ⟨k', v⟩ := d
    unfold Memory.erase at h
    split at h
    · exact ih h
    · next hk =>
      rcases List.mem_cons.1 h with rfl | h
      · exact hk
      · exact ih h

theorem Memory.wf_erase (m : Memory) (k : Nat) (h : m.wf) : (Memory.erase m k).wf := by
  refine ⟨?_, fun c hc => h.2 c (Memory.mem_of_mem_erase m k hc)⟩
  have h1 := h.1
  clear h
  induction m with
  | nil => exact List.Pairwise.nil
  | cons d m ih =>
    obtain ⟨k', v⟩ := d
    rw [List.pairwise_cons] at h1
    unfold Memory.erase
    split
    · exact ih h1.2
    · exact List.pairwise_cons.2 ⟨fun c hc => h1.1 c (Memory.mem_of_mem_erase m k hc), ih h1.2⟩

theorem Memory.mem_insert (m : Memory) (k : Nat) (v : Byte) {c : Host.Cell} (h : c ∈ Memory.insert m k v) :
    c = (k, v) ∨ c ∈ m := by
  induction m with
  | nil => exact .inl (by simpa [Memory.insert] using h)
  | cons d m ih =>
    obtain ⟨k', w⟩ := d
    unfold Memory.insert at h
    split at h
    · rcases List.mem_cons.1 h with h | h
      · exact .inl h
      · exact .inr h
    · rcases List.mem_cons.1 h with h | h
      · exact .inr (h ▸ List.mem_cons_self)
      · exact (ih h).imp id (List.mem_cons_of_mem _)

theorem Memory.pairwise_insert (m : Memory) (k : Nat) (v : Byte) (h : m.Pairwise (fun c d => c.1 < d.1))
    (hk : ∀ c ∈ m, c.1 ≠ k) : (Memory.insert m k v).Pairwise (fun c d => c.1 < d.1) := by
  induction m with
  | nil => simp [Memory.insert]
  | cons d m ih =>
    obtain ⟨k', w⟩ := d
    have h' := List.pairwise_cons.1 h
    unfold Memory.insert
    split
    · next hlt =>
      refine List.pairwise_cons.2 ⟨fun c hc => ?_, h⟩
      rcases List.mem_cons.1 hc with rfl | hc
      · exact hlt
      · exact Nat.lt_trans hlt (h'.1 c hc)
    · next hlt =>
      have hne : k' ≠ k := hk (k', w) List.mem_cons_self
      refine List.pairwise_cons.2 ⟨fun c hc => ?_, ih h'.2 fun c hc => hk c (List.mem_cons_of_mem _ hc)⟩
      rcases Memory.mem_insert m k v hc with rfl | hc
      · exact Nat.lt_of_le_of_ne (Nat.le_of_not_lt hlt) hne
      · exact h'.1 c hc

/-- A write keeps the canonical form. -/
theorem Memory.wf_write (m : Memory) (k : Nat) (v : Byte) (h : m.wf) : (m.write k v).wf := by
  have he := Memory.wf_erase m k h
  unfold Memory.write
  split
  · exact he
  · next hv =>
    refine ⟨Memory.pairwise_insert _ k v he.1 fun c hc => Memory.erase_key_ne m k hc, fun c hc => ?_⟩
    rcases Memory.mem_insert _ k v hc with rfl | hc
    · exact hv
    · exact he.2 c hc

/-- So do several writes. -/
theorem Memory.wf_writeAll (cs : List Host.Cell) (m : Memory) (h : m.wf) : (m.writeAll cs).wf := by
  induction cs generalizing m with
  | nil => exact h
  | cons c cs ih => exact ih _ (Memory.wf_write m c.1 c.2 h)

end Sys2Proof.Machine
end

