-- ==== Sys2Proof/Laws/State.lean ====
section
/-! SUPPORT. One lemma a field for every update of State, so that no later proof unfolds a record update. -/

namespace Sys2Proof.Machine

@[simp] theorem get_a (s : State) : s.get .a = s.a := rfl
@[simp] theorem get_x (s : State) : s.get .x = s.x := rfl
@[simp] theorem get_y (s : State) : s.get .y = s.y := rfl
@[simp] theorem get_s (s : State) : s.get .s = s.sp := rfl

@[simp] theorem set_pc (s : State) (r : Reg) (v : Byte) : (s.set r v).pc = s.pc := by cases r <;> rfl
@[simp] theorem set_p (s : State) (r : Reg) (v : Byte) : (s.set r v).p = s.p := by cases r <;> rfl
@[simp] theorem set_mpr (s : State) (r : Reg) (v : Byte) : (s.set r v).mpr = s.mpr := by cases r <;> rfl
@[simp] theorem set_pageR (s : State) (r : Reg) (v : Byte) : (s.set r v).pageR = s.pageR := by cases r <;> rfl
@[simp] theorem set_pageW (s : State) (r : Reg) (v : Byte) : (s.set r v).pageW = s.pageW := by cases r <;> rfl
@[simp] theorem set_mem (s : State) (r : Reg) (v : Byte) : (s.set r v).mem = s.mem := by cases r <;> rfl
@[simp] theorem set_scanCycles (s : State) (r : Reg) (v : Byte) : (s.set r v).scanCycles = s.scanCycles := by cases r <;> rfl
@[simp] theorem set_timerDelta (s : State) (r : Reg) (v : Byte) : (s.set r v).timerDelta = s.timerDelta := by cases r <;> rfl
@[simp] theorem set_pending (s : State) (r : Reg) (v : Byte) : (s.set r v).pending = s.pending := by cases r <;> rfl
@[simp] theorem set_status (s : State) (r : Reg) (v : Byte) : (s.set r v).status = s.status := by cases r <;> rfl
@[simp] theorem set_platform (s : State) (r : Reg) (v : Byte) : (s.set r v).platform = s.platform := by cases r <;> rfl
@[simp] theorem set_draws (s : State) (r : Reg) (v : Byte) : (s.set r v).draws = s.draws := by cases r <;> rfl
@[simp] theorem set_calls (s : State) (r : Reg) (v : Byte) : (s.set r v).calls = s.calls := by cases r <;> rfl
@[simp] theorem set_a_a (s : State) (v : Byte) : (s.set .a v).a = v := rfl
@[simp] theorem set_a_x (s : State) (v : Byte) : (s.set .a v).x = s.x := rfl
@[simp] theorem set_a_y (s : State) (v : Byte) : (s.set .a v).y = s.y := rfl
@[simp] theorem set_a_sp (s : State) (v : Byte) : (s.set .a v).sp = s.sp := rfl
@[simp] theorem set_x_a (s : State) (v : Byte) : (s.set .x v).a = s.a := rfl
@[simp] theorem set_x_x (s : State) (v : Byte) : (s.set .x v).x = v := rfl
@[simp] theorem set_x_y (s : State) (v : Byte) : (s.set .x v).y = s.y := rfl
@[simp] theorem set_x_sp (s : State) (v : Byte) : (s.set .x v).sp = s.sp := rfl
@[simp] theorem set_y_a (s : State) (v : Byte) : (s.set .y v).a = s.a := rfl
@[simp] theorem set_y_x (s : State) (v : Byte) : (s.set .y v).x = s.x := rfl
@[simp] theorem set_y_y (s : State) (v : Byte) : (s.set .y v).y = v := rfl
@[simp] theorem set_y_sp (s : State) (v : Byte) : (s.set .y v).sp = s.sp := rfl
@[simp] theorem set_s_a (s : State) (v : Byte) : (s.set .s v).a = s.a := rfl
@[simp] theorem set_s_x (s : State) (v : Byte) : (s.set .s v).x = s.x := rfl
@[simp] theorem set_s_y (s : State) (v : Byte) : (s.set .s v).y = s.y := rfl
@[simp] theorem set_s_sp (s : State) (v : Byte) : (s.set .s v).sp = v := rfl

theorem get_set_same (s : State) (r : Reg) (v : Byte) : (s.set r v).get r = v := by cases r <;> rfl

theorem get_set_other (s : State) (r q : Reg) (v : Byte) (h : q ≠ r) : (s.set r v).get q = s.get q := by
  cases r <;> cases q <;> first | rfl | exact absurd rfl h

@[simp] theorem withP_a (s : State) (v : Byte) : (s.withP v).a = s.a := rfl
@[simp] theorem withP_x (s : State) (v : Byte) : (s.withP v).x = s.x := rfl
@[simp] theorem withP_y (s : State) (v : Byte) : (s.withP v).y = s.y := rfl
@[simp] theorem withP_sp (s : State) (v : Byte) : (s.withP v).sp = s.sp := rfl
@[simp] theorem withP_pc (s : State) (v : Byte) : (s.withP v).pc = s.pc := rfl
@[simp] theorem withP_p (s : State) (v : Byte) : (s.withP v).p = v := rfl
@[simp] theorem withP_mpr (s : State) (v : Byte) : (s.withP v).mpr = s.mpr := rfl
@[simp] theorem withP_pageR (s : State) (v : Byte) : (s.withP v).pageR = s.pageR := rfl
@[simp] theorem withP_pageW (s : State) (v : Byte) : (s.withP v).pageW = s.pageW := rfl
@[simp] theorem withP_mem (s : State) (v : Byte) : (s.withP v).mem = s.mem := rfl
@[simp] theorem withP_scanCycles (s : State) (v : Byte) : (s.withP v).scanCycles = s.scanCycles := rfl
@[simp] theorem withP_timerDelta (s : State) (v : Byte) : (s.withP v).timerDelta = s.timerDelta := rfl
@[simp] theorem withP_pending (s : State) (v : Byte) : (s.withP v).pending = s.pending := rfl
@[simp] theorem withP_status (s : State) (v : Byte) : (s.withP v).status = s.status := rfl
@[simp] theorem withP_platform (s : State) (v : Byte) : (s.withP v).platform = s.platform := rfl
@[simp] theorem withP_draws (s : State) (v : Byte) : (s.withP v).draws = s.draws := rfl
@[simp] theorem withP_calls (s : State) (v : Byte) : (s.withP v).calls = s.calls := rfl

@[simp] theorem withPc_a (s : State) (v : Word) : (s.withPc v).a = s.a := rfl
@[simp] theorem withPc_x (s : State) (v : Word) : (s.withPc v).x = s.x := rfl
@[simp] theorem withPc_y (s : State) (v : Word) : (s.withPc v).y = s.y := rfl
@[simp] theorem withPc_sp (s : State) (v : Word) : (s.withPc v).sp = s.sp := rfl
@[simp] theorem withPc_pc (s : State) (v : Word) : (s.withPc v).pc = v := rfl
@[simp] theorem withPc_p (s : State) (v : Word) : (s.withPc v).p = s.p := rfl
@[simp] theorem withPc_mpr (s : State) (v : Word) : (s.withPc v).mpr = s.mpr := rfl
@[simp] theorem withPc_pageR (s : State) (v : Word) : (s.withPc v).pageR = s.pageR := rfl
@[simp] theorem withPc_pageW (s : State) (v : Word) : (s.withPc v).pageW = s.pageW := rfl
@[simp] theorem withPc_mem (s : State) (v : Word) : (s.withPc v).mem = s.mem := rfl
@[simp] theorem withPc_scanCycles (s : State) (v : Word) : (s.withPc v).scanCycles = s.scanCycles := rfl
@[simp] theorem withPc_timerDelta (s : State) (v : Word) : (s.withPc v).timerDelta = s.timerDelta := rfl
@[simp] theorem withPc_pending (s : State) (v : Word) : (s.withPc v).pending = s.pending := rfl
@[simp] theorem withPc_status (s : State) (v : Word) : (s.withPc v).status = s.status := rfl
@[simp] theorem withPc_platform (s : State) (v : Word) : (s.withPc v).platform = s.platform := rfl
@[simp] theorem withPc_draws (s : State) (v : Word) : (s.withPc v).draws = s.draws := rfl
@[simp] theorem withPc_calls (s : State) (v : Word) : (s.withPc v).calls = s.calls := rfl

@[simp] theorem putFlag_a (s : State) (f : Flag) (v : Bool) : (s.putFlag f v).a = s.a := rfl
@[simp] theorem putFlag_x (s : State) (f : Flag) (v : Bool) : (s.putFlag f v).x = s.x := rfl
@[simp] theorem putFlag_y (s : State) (f : Flag) (v : Bool) : (s.putFlag f v).y = s.y := rfl
@[simp] theorem putFlag_sp (s : State) (f : Flag) (v : Bool) : (s.putFlag f v).sp = s.sp := rfl
@[simp] theorem putFlag_pc (s : State) (f : Flag) (v : Bool) : (s.putFlag f v).pc = s.pc := rfl
@[simp] theorem putFlag_p (s : State) (f : Flag) (v : Bool) : (s.putFlag f v).p = setFlag s.p f v := rfl
@[simp] theorem putFlag_mpr (s : State) (f : Flag) (v : Bool) : (s.putFlag f v).mpr = s.mpr := rfl
@[simp] theorem putFlag_pageR (s : State) (f : Flag) (v : Bool) : (s.putFlag f v).pageR = s.pageR := rfl
@[simp] theorem putFlag_pageW (s : State) (f : Flag) (v : Bool) : (s.putFlag f v).pageW = s.pageW := rfl
@[simp] theorem putFlag_mem (s : State) (f : Flag) (v : Bool) : (s.putFlag f v).mem = s.mem := rfl
@[simp] theorem putFlag_scanCycles (s : State) (f : Flag) (v : Bool) : (s.putFlag f v).scanCycles = s.scanCycles := rfl
@[simp] theorem putFlag_timerDelta (s : State) (f : Flag) (v : Bool) : (s.putFlag f v).timerDelta = s.timerDelta := rfl
@[simp] theorem putFlag_pending (s : State) (f : Flag) (v : Bool) : (s.putFlag f v).pending = s.pending := rfl
@[simp] theorem putFlag_status (s : State) (f : Flag) (v : Bool) : (s.putFlag f v).status = s.status := rfl
@[simp] theorem putFlag_platform (s : State) (f : Flag) (v : Bool) : (s.putFlag f v).platform = s.platform := rfl
@[simp] theorem putFlag_draws (s : State) (f : Flag) (v : Bool) : (s.putFlag f v).draws = s.draws := rfl
@[simp] theorem putFlag_calls (s : State) (f : Flag) (v : Bool) : (s.putFlag f v).calls = s.calls := rfl

@[simp] theorem clearT_a (s : State) : (clearT s).a = s.a := rfl
@[simp] theorem clearT_x (s : State) : (clearT s).x = s.x := rfl
@[simp] theorem clearT_y (s : State) : (clearT s).y = s.y := rfl
@[simp] theorem clearT_sp (s : State) : (clearT s).sp = s.sp := rfl
@[simp] theorem clearT_pc (s : State) : (clearT s).pc = s.pc := rfl
@[simp] theorem clearT_p (s : State) : (clearT s).p = setFlag s.p .t false := rfl
@[simp] theorem clearT_mpr (s : State) : (clearT s).mpr = s.mpr := rfl
@[simp] theorem clearT_pageR (s : State) : (clearT s).pageR = s.pageR := rfl
@[simp] theorem clearT_pageW (s : State) : (clearT s).pageW = s.pageW := rfl
@[simp] theorem clearT_mem (s : State) : (clearT s).mem = s.mem := rfl
@[simp] theorem clearT_scanCycles (s : State) : (clearT s).scanCycles = s.scanCycles := rfl
@[simp] theorem clearT_timerDelta (s : State) : (clearT s).timerDelta = s.timerDelta := rfl
@[simp] theorem clearT_pending (s : State) : (clearT s).pending = s.pending := rfl
@[simp] theorem clearT_status (s : State) : (clearT s).status = s.status := rfl
@[simp] theorem clearT_platform (s : State) : (clearT s).platform = s.platform := rfl
@[simp] theorem clearT_draws (s : State) : (clearT s).draws = s.draws := rfl
@[simp] theorem clearT_calls (s : State) : (clearT s).calls = s.calls := rfl

@[simp] theorem addCost_a (n : Nat) (s : State) : (addCost n s).a = s.a := rfl
@[simp] theorem addCost_x (n : Nat) (s : State) : (addCost n s).x = s.x := rfl
@[simp] theorem addCost_y (n : Nat) (s : State) : (addCost n s).y = s.y := rfl
@[simp] theorem addCost_sp (n : Nat) (s : State) : (addCost n s).sp = s.sp := rfl
@[simp] theorem addCost_pc (n : Nat) (s : State) : (addCost n s).pc = s.pc := rfl
@[simp] theorem addCost_p (n : Nat) (s : State) : (addCost n s).p = s.p := rfl
@[simp] theorem addCost_mpr (n : Nat) (s : State) : (addCost n s).mpr = s.mpr := rfl
@[simp] theorem addCost_pageR (n : Nat) (s : State) : (addCost n s).pageR = s.pageR := rfl
@[simp] theorem addCost_pageW (n : Nat) (s : State) : (addCost n s).pageW = s.pageW := rfl
@[simp] theorem addCost_mem (n : Nat) (s : State) : (addCost n s).mem = s.mem := rfl
@[simp] theorem addCost_scanCycles (n : Nat) (s : State) : (addCost n s).scanCycles = s.scanCycles + n := rfl
@[simp] theorem addCost_timerDelta (n : Nat) (s : State) : (addCost n s).timerDelta = s.timerDelta + n := rfl
@[simp] theorem addCost_pending (n : Nat) (s : State) : (addCost n s).pending = s.pending := rfl
@[simp] theorem addCost_status (n : Nat) (s : State) : (addCost n s).status = s.status := rfl
@[simp] theorem addCost_platform (n : Nat) (s : State) : (addCost n s).platform = s.platform := rfl
@[simp] theorem addCost_draws (n : Nat) (s : State) : (addCost n s).draws = s.draws := rfl
@[simp] theorem addCost_calls (n : Nat) (s : State) : (addCost n s).calls = s.calls := rfl

@[simp] theorem advance_a (len cost : Nat) (s : State) : (advance len cost s).a = s.a := rfl
@[simp] theorem advance_x (len cost : Nat) (s : State) : (advance len cost s).x = s.x := rfl
@[simp] theorem advance_y (len cost : Nat) (s : State) : (advance len cost s).y = s.y := rfl
@[simp] theorem advance_sp (len cost : Nat) (s : State) : (advance len cost s).sp = s.sp := rfl
@[simp] theorem advance_pc (len cost : Nat) (s : State) : (advance len cost s).pc = s.pc + BitVec.ofNat 16 len := rfl
@[simp] theorem advance_p (len cost : Nat) (s : State) : (advance len cost s).p = s.p := rfl
@[simp] theorem advance_mpr (len cost : Nat) (s : State) : (advance len cost s).mpr = s.mpr := rfl
@[simp] theorem advance_pageR (len cost : Nat) (s : State) : (advance len cost s).pageR = s.pageR := rfl
@[simp] theorem advance_pageW (len cost : Nat) (s : State) : (advance len cost s).pageW = s.pageW := rfl
@[simp] theorem advance_mem (len cost : Nat) (s : State) : (advance len cost s).mem = s.mem := rfl
@[simp] theorem advance_scanCycles (len cost : Nat) (s : State) : (advance len cost s).scanCycles = s.scanCycles + cost := rfl
@[simp] theorem advance_timerDelta (len cost : Nat) (s : State) : (advance len cost s).timerDelta = s.timerDelta + cost := rfl
@[simp] theorem advance_pending (len cost : Nat) (s : State) : (advance len cost s).pending = s.pending := rfl
@[simp] theorem advance_status (len cost : Nat) (s : State) : (advance len cost s).status = s.status := rfl
@[simp] theorem advance_platform (len cost : Nat) (s : State) : (advance len cost s).platform = s.platform := rfl
@[simp] theorem advance_draws (len cost : Nat) (s : State) : (advance len cost s).draws = s.draws := rfl
@[simp] theorem advance_calls (len cost : Nat) (s : State) : (advance len cost s).calls = s.calls := rfl

@[simp] theorem start_a (op : Byte) (len : Nat) (s : State) : (start op len s).a = s.a := rfl
@[simp] theorem start_x (op : Byte) (len : Nat) (s : State) : (start op len s).x = s.x := rfl
@[simp] theorem start_y (op : Byte) (len : Nat) (s : State) : (start op len s).y = s.y := rfl
@[simp] theorem start_sp (op : Byte) (len : Nat) (s : State) : (start op len s).sp = s.sp := rfl
@[simp] theorem start_pc (op : Byte) (len : Nat) (s : State) : (start op len s).pc = s.pc + BitVec.ofNat 16 len := rfl
@[simp] theorem start_p (op : Byte) (len : Nat) (s : State) : (start op len s).p = s.p := rfl
@[simp] theorem start_mpr (op : Byte) (len : Nat) (s : State) : (start op len s).mpr = s.mpr := rfl
@[simp] theorem start_pageR (op : Byte) (len : Nat) (s : State) : (start op len s).pageR = s.pageR := rfl
@[simp] theorem start_pageW (op : Byte) (len : Nat) (s : State) : (start op len s).pageW = s.pageW := rfl
@[simp] theorem start_mem (op : Byte) (len : Nat) (s : State) : (start op len s).mem = s.mem := rfl
@[simp] theorem start_scanCycles (op : Byte) (len : Nat) (s : State) : (start op len s).scanCycles = s.scanCycles + cycles op := rfl
@[simp] theorem start_timerDelta (op : Byte) (len : Nat) (s : State) : (start op len s).timerDelta = s.timerDelta + cycles op := rfl
@[simp] theorem start_pending (op : Byte) (len : Nat) (s : State) : (start op len s).pending = s.pending := rfl
@[simp] theorem start_status (op : Byte) (len : Nat) (s : State) : (start op len s).status = s.status := rfl
@[simp] theorem start_platform (op : Byte) (len : Nat) (s : State) : (start op len s).platform = s.platform := rfl
@[simp] theorem start_draws (op : Byte) (len : Nat) (s : State) : (start op len s).draws = s.draws := rfl
@[simp] theorem start_calls (op : Byte) (len : Nat) (s : State) : (start op len s).calls = s.calls := rfl

@[simp] theorem record_a (c : ExtCall) (s : State) : (record c s).a = s.a := rfl
@[simp] theorem record_x (c : ExtCall) (s : State) : (record c s).x = s.x := rfl
@[simp] theorem record_y (c : ExtCall) (s : State) : (record c s).y = s.y := rfl
@[simp] theorem record_sp (c : ExtCall) (s : State) : (record c s).sp = s.sp := rfl
@[simp] theorem record_pc (c : ExtCall) (s : State) : (record c s).pc = s.pc := rfl
@[simp] theorem record_p (c : ExtCall) (s : State) : (record c s).p = s.p := rfl
@[simp] theorem record_mpr (c : ExtCall) (s : State) : (record c s).mpr = s.mpr := rfl
@[simp] theorem record_pageR (c : ExtCall) (s : State) : (record c s).pageR = s.pageR := rfl
@[simp] theorem record_pageW (c : ExtCall) (s : State) : (record c s).pageW = s.pageW := rfl
@[simp] theorem record_mem (c : ExtCall) (s : State) : (record c s).mem = s.mem := rfl
@[simp] theorem record_scanCycles (c : ExtCall) (s : State) : (record c s).scanCycles = s.scanCycles := rfl
@[simp] theorem record_timerDelta (c : ExtCall) (s : State) : (record c s).timerDelta = s.timerDelta := rfl
@[simp] theorem record_pending (c : ExtCall) (s : State) : (record c s).pending = s.pending := rfl
@[simp] theorem record_status (c : ExtCall) (s : State) : (record c s).status = s.status := rfl
@[simp] theorem record_platform (c : ExtCall) (s : State) : (record c s).platform = s.platform := rfl
@[simp] theorem record_draws (c : ExtCall) (s : State) : (record c s).draws = s.draws := rfl
@[simp] theorem record_calls (c : ExtCall) (s : State) : (record c s).calls = c :: s.calls := rfl

@[simp] theorem ioWrite_a (addr : Word) (v : Byte) (s : State) : (ioWrite addr v s).a = s.a := rfl
@[simp] theorem ioWrite_x (addr : Word) (v : Byte) (s : State) : (ioWrite addr v s).x = s.x := rfl
@[simp] theorem ioWrite_y (addr : Word) (v : Byte) (s : State) : (ioWrite addr v s).y = s.y := rfl
@[simp] theorem ioWrite_sp (addr : Word) (v : Byte) (s : State) : (ioWrite addr v s).sp = s.sp := rfl
@[simp] theorem ioWrite_pc (addr : Word) (v : Byte) (s : State) : (ioWrite addr v s).pc = s.pc := rfl
@[simp] theorem ioWrite_p (addr : Word) (v : Byte) (s : State) : (ioWrite addr v s).p = s.p := rfl
@[simp] theorem ioWrite_mpr (addr : Word) (v : Byte) (s : State) : (ioWrite addr v s).mpr = s.mpr := rfl
@[simp] theorem ioWrite_pageR (addr : Word) (v : Byte) (s : State) : (ioWrite addr v s).pageR = s.pageR := rfl
@[simp] theorem ioWrite_pageW (addr : Word) (v : Byte) (s : State) : (ioWrite addr v s).pageW = s.pageW := rfl
@[simp] theorem ioWrite_mem (addr : Word) (v : Byte) (s : State) : (ioWrite addr v s).mem = s.mem := rfl
@[simp] theorem ioWrite_scanCycles (addr : Word) (v : Byte) (s : State) : (ioWrite addr v s).scanCycles = s.scanCycles := rfl
@[simp] theorem ioWrite_timerDelta (addr : Word) (v : Byte) (s : State) : (ioWrite addr v s).timerDelta = s.timerDelta := rfl
@[simp] theorem ioWrite_pending (addr : Word) (v : Byte) (s : State) : (ioWrite addr v s).pending = s.pending := rfl
@[simp] theorem ioWrite_status (addr : Word) (v : Byte) (s : State) : (ioWrite addr v s).status = s.status := rfl
@[simp] theorem ioWrite_platform (addr : Word) (v : Byte) (s : State) : (ioWrite addr v s).platform = s.platform := rfl
@[simp] theorem ioWrite_draws (addr : Word) (v : Byte) (s : State) : (ioWrite addr v s).draws = s.draws := rfl
@[simp] theorem ioWrite_calls (addr : Word) (v : Byte) (s : State) : (ioWrite addr v s).calls = .ioWrite addr v :: s.calls := rfl

@[simp] theorem ioRead_a (addr : Word) (s : State) : ((ioRead addr s).2).a = s.a := rfl
@[simp] theorem ioRead_x (addr : Word) (s : State) : ((ioRead addr s).2).x = s.x := rfl
@[simp] theorem ioRead_y (addr : Word) (s : State) : ((ioRead addr s).2).y = s.y := rfl
@[simp] theorem ioRead_sp (addr : Word) (s : State) : ((ioRead addr s).2).sp = s.sp := rfl
@[simp] theorem ioRead_pc (addr : Word) (s : State) : ((ioRead addr s).2).pc = s.pc := rfl
@[simp] theorem ioRead_p (addr : Word) (s : State) : ((ioRead addr s).2).p = s.p := rfl
@[simp] theorem ioRead_mpr (addr : Word) (s : State) : ((ioRead addr s).2).mpr = s.mpr := rfl
@[simp] theorem ioRead_pageR (addr : Word) (s : State) : ((ioRead addr s).2).pageR = s.pageR := rfl
@[simp] theorem ioRead_pageW (addr : Word) (s : State) : ((ioRead addr s).2).pageW = s.pageW := rfl
@[simp] theorem ioRead_mem (addr : Word) (s : State) : ((ioRead addr s).2).mem = s.mem := rfl
@[simp] theorem ioRead_scanCycles (addr : Word) (s : State) : ((ioRead addr s).2).scanCycles = s.scanCycles := rfl
@[simp] theorem ioRead_timerDelta (addr : Word) (s : State) : ((ioRead addr s).2).timerDelta = s.timerDelta := rfl
@[simp] theorem ioRead_pending (addr : Word) (s : State) : ((ioRead addr s).2).pending = s.pending := rfl
@[simp] theorem ioRead_status (addr : Word) (s : State) : ((ioRead addr s).2).status = s.status := rfl
@[simp] theorem ioRead_draws (addr : Word) (s : State) : ((ioRead addr s).2).draws = s.draws + 1 := rfl
@[simp] theorem ioRead_calls (addr : Word) (s : State) : ((ioRead addr s).2).calls = .ioRead addr (ioRead addr s).1 :: s.calls := rfl

@[simp] theorem writeMem_a (k : Nat) (v : Byte) (s : State) : (writeMem k v s).a = s.a := rfl
@[simp] theorem writeMem_x (k : Nat) (v : Byte) (s : State) : (writeMem k v s).x = s.x := rfl
@[simp] theorem writeMem_y (k : Nat) (v : Byte) (s : State) : (writeMem k v s).y = s.y := rfl
@[simp] theorem writeMem_sp (k : Nat) (v : Byte) (s : State) : (writeMem k v s).sp = s.sp := rfl
@[simp] theorem writeMem_pc (k : Nat) (v : Byte) (s : State) : (writeMem k v s).pc = s.pc := rfl
@[simp] theorem writeMem_p (k : Nat) (v : Byte) (s : State) : (writeMem k v s).p = s.p := rfl
@[simp] theorem writeMem_mpr (k : Nat) (v : Byte) (s : State) : (writeMem k v s).mpr = s.mpr := rfl
@[simp] theorem writeMem_pageR (k : Nat) (v : Byte) (s : State) : (writeMem k v s).pageR = s.pageR := rfl
@[simp] theorem writeMem_pageW (k : Nat) (v : Byte) (s : State) : (writeMem k v s).pageW = s.pageW := rfl
@[simp] theorem writeMem_mem (k : Nat) (v : Byte) (s : State) : (writeMem k v s).mem = s.mem.write k v := rfl
@[simp] theorem writeMem_scanCycles (k : Nat) (v : Byte) (s : State) : (writeMem k v s).scanCycles = s.scanCycles := rfl
@[simp] theorem writeMem_timerDelta (k : Nat) (v : Byte) (s : State) : (writeMem k v s).timerDelta = s.timerDelta := rfl
@[simp] theorem writeMem_pending (k : Nat) (v : Byte) (s : State) : (writeMem k v s).pending = s.pending := rfl
@[simp] theorem writeMem_status (k : Nat) (v : Byte) (s : State) : (writeMem k v s).status = s.status := rfl
@[simp] theorem writeMem_platform (k : Nat) (v : Byte) (s : State) : (writeMem k v s).platform = s.platform := rfl
@[simp] theorem writeMem_draws (k : Nat) (v : Byte) (s : State) : (writeMem k v s).draws = s.draws := rfl
@[simp] theorem writeMem_calls (k : Nat) (v : Byte) (s : State) : (writeMem k v s).calls = s.calls := rfl

@[simp] theorem zpWrite_a (z v : Byte) (s : State) : (zpWrite z v s).a = s.a := rfl
@[simp] theorem zpWrite_x (z v : Byte) (s : State) : (zpWrite z v s).x = s.x := rfl
@[simp] theorem zpWrite_y (z v : Byte) (s : State) : (zpWrite z v s).y = s.y := rfl
@[simp] theorem zpWrite_sp (z v : Byte) (s : State) : (zpWrite z v s).sp = s.sp := rfl
@[simp] theorem zpWrite_pc (z v : Byte) (s : State) : (zpWrite z v s).pc = s.pc := rfl
@[simp] theorem zpWrite_p (z v : Byte) (s : State) : (zpWrite z v s).p = s.p := rfl
@[simp] theorem zpWrite_mpr (z v : Byte) (s : State) : (zpWrite z v s).mpr = s.mpr := rfl
@[simp] theorem zpWrite_pageR (z v : Byte) (s : State) : (zpWrite z v s).pageR = s.pageR := rfl
@[simp] theorem zpWrite_pageW (z v : Byte) (s : State) : (zpWrite z v s).pageW = s.pageW := rfl
@[simp] theorem zpWrite_mem (z v : Byte) (s : State) : (zpWrite z v s).mem = s.mem.write (zpCell z) v := rfl
@[simp] theorem zpWrite_scanCycles (z v : Byte) (s : State) : (zpWrite z v s).scanCycles = s.scanCycles := rfl
@[simp] theorem zpWrite_timerDelta (z v : Byte) (s : State) : (zpWrite z v s).timerDelta = s.timerDelta := rfl
@[simp] theorem zpWrite_pending (z v : Byte) (s : State) : (zpWrite z v s).pending = s.pending := rfl
@[simp] theorem zpWrite_status (z v : Byte) (s : State) : (zpWrite z v s).status = s.status := rfl
@[simp] theorem zpWrite_platform (z v : Byte) (s : State) : (zpWrite z v s).platform = s.platform := rfl
@[simp] theorem zpWrite_draws (z v : Byte) (s : State) : (zpWrite z v s).draws = s.draws := rfl
@[simp] theorem zpWrite_calls (z v : Byte) (s : State) : (zpWrite z v s).calls = s.calls := rfl

@[simp] theorem push_a (v : Byte) (s : State) : (push v s).a = s.a := rfl
@[simp] theorem push_x (v : Byte) (s : State) : (push v s).x = s.x := rfl
@[simp] theorem push_y (v : Byte) (s : State) : (push v s).y = s.y := rfl
@[simp] theorem push_sp (v : Byte) (s : State) : (push v s).sp = s.sp - 1 := rfl
@[simp] theorem push_pc (v : Byte) (s : State) : (push v s).pc = s.pc := rfl
@[simp] theorem push_p (v : Byte) (s : State) : (push v s).p = s.p := rfl
@[simp] theorem push_mpr (v : Byte) (s : State) : (push v s).mpr = s.mpr := rfl
@[simp] theorem push_pageR (v : Byte) (s : State) : (push v s).pageR = s.pageR := rfl
@[simp] theorem push_pageW (v : Byte) (s : State) : (push v s).pageW = s.pageW := rfl
@[simp] theorem push_mem (v : Byte) (s : State) : (push v s).mem = s.mem.write (stackCell s.sp) v := rfl
@[simp] theorem push_scanCycles (v : Byte) (s : State) : (push v s).scanCycles = s.scanCycles := rfl
@[simp] theorem push_timerDelta (v : Byte) (s : State) : (push v s).timerDelta = s.timerDelta := rfl
@[simp] theorem push_pending (v : Byte) (s : State) : (push v s).pending = s.pending := rfl
@[simp] theorem push_status (v : Byte) (s : State) : (push v s).status = s.status := rfl
@[simp] theorem push_platform (v : Byte) (s : State) : (push v s).platform = s.platform := rfl
@[simp] theorem push_draws (v : Byte) (s : State) : (push v s).draws = s.draws := rfl
@[simp] theorem push_calls (v : Byte) (s : State) : (push v s).calls = s.calls := rfl

@[simp] theorem pull_a (s : State) : ((pull s).2).a = s.a := rfl
@[simp] theorem pull_x (s : State) : ((pull s).2).x = s.x := rfl
@[simp] theorem pull_y (s : State) : ((pull s).2).y = s.y := rfl
@[simp] theorem pull_sp (s : State) : ((pull s).2).sp = s.sp + 1 := rfl
@[simp] theorem pull_pc (s : State) : ((pull s).2).pc = s.pc := rfl
@[simp] theorem pull_p (s : State) : ((pull s).2).p = s.p := rfl
@[simp] theorem pull_mpr (s : State) : ((pull s).2).mpr = s.mpr := rfl
@[simp] theorem pull_pageR (s : State) : ((pull s).2).pageR = s.pageR := rfl
@[simp] theorem pull_pageW (s : State) : ((pull s).2).pageW = s.pageW := rfl
@[simp] theorem pull_mem (s : State) : ((pull s).2).mem = s.mem := rfl
@[simp] theorem pull_scanCycles (s : State) : ((pull s).2).scanCycles = s.scanCycles := rfl
@[simp] theorem pull_timerDelta (s : State) : ((pull s).2).timerDelta = s.timerDelta := rfl
@[simp] theorem pull_pending (s : State) : ((pull s).2).pending = s.pending := rfl
@[simp] theorem pull_status (s : State) : ((pull s).2).status = s.status := rfl
@[simp] theorem pull_platform (s : State) : ((pull s).2).platform = s.platform := rfl
@[simp] theorem pull_draws (s : State) : ((pull s).2).draws = s.draws := rfl
@[simp] theorem pull_calls (s : State) : ((pull s).2).calls = s.calls := rfl

@[simp] theorem pull_value (s : State) : (pull s).1 = s.mem.read (stackCell (s.sp + 1)) := rfl

@[simp] theorem writeMpr_a (i : Fin 8) (v : Byte) (s : State) : (writeMpr i v s).a = s.a := rfl
@[simp] theorem writeMpr_x (i : Fin 8) (v : Byte) (s : State) : (writeMpr i v s).x = s.x := rfl
@[simp] theorem writeMpr_y (i : Fin 8) (v : Byte) (s : State) : (writeMpr i v s).y = s.y := rfl
@[simp] theorem writeMpr_sp (i : Fin 8) (v : Byte) (s : State) : (writeMpr i v s).sp = s.sp := rfl
@[simp] theorem writeMpr_pc (i : Fin 8) (v : Byte) (s : State) : (writeMpr i v s).pc = s.pc := rfl
@[simp] theorem writeMpr_p (i : Fin 8) (v : Byte) (s : State) : (writeMpr i v s).p = s.p := rfl
@[simp] theorem writeMpr_mpr (i : Fin 8) (v : Byte) (s : State) : (writeMpr i v s).mpr = s.mpr.set i v := rfl
@[simp] theorem writeMpr_pageR (i : Fin 8) (v : Byte) (s : State) : (writeMpr i v s).pageR = s.pageR.set i (bankEntries i v s).1 := rfl
@[simp] theorem writeMpr_pageW (i : Fin 8) (v : Byte) (s : State) : (writeMpr i v s).pageW = s.pageW.set i (bankEntries i v s).2 := rfl
@[simp] theorem writeMpr_mem (i : Fin 8) (v : Byte) (s : State) : (writeMpr i v s).mem = s.mem := rfl
@[simp] theorem writeMpr_scanCycles (i : Fin 8) (v : Byte) (s : State) : (writeMpr i v s).scanCycles = s.scanCycles := rfl
@[simp] theorem writeMpr_timerDelta (i : Fin 8) (v : Byte) (s : State) : (writeMpr i v s).timerDelta = s.timerDelta := rfl
@[simp] theorem writeMpr_pending (i : Fin 8) (v : Byte) (s : State) : (writeMpr i v s).pending = s.pending := rfl
@[simp] theorem writeMpr_status (i : Fin 8) (v : Byte) (s : State) : (writeMpr i v s).status = s.status := rfl
@[simp] theorem writeMpr_platform (i : Fin 8) (v : Byte) (s : State) : (writeMpr i v s).platform = s.platform := rfl
@[simp] theorem writeMpr_draws (i : Fin 8) (v : Byte) (s : State) : (writeMpr i v s).draws = s.draws := rfl
@[simp] theorem writeMpr_calls (i : Fin 8) (v : Byte) (s : State) : (writeMpr i v s).calls = .bankSet i v :: s.calls := rfl

@[simp] theorem halt_a (op : Byte) (s : State) : (halt op s).a = s.a := rfl
@[simp] theorem halt_x (op : Byte) (s : State) : (halt op s).x = s.x := rfl
@[simp] theorem halt_y (op : Byte) (s : State) : (halt op s).y = s.y := rfl
@[simp] theorem halt_sp (op : Byte) (s : State) : (halt op s).sp = s.sp := rfl
@[simp] theorem halt_pc (op : Byte) (s : State) : (halt op s).pc = s.pc := rfl
@[simp] theorem halt_p (op : Byte) (s : State) : (halt op s).p = s.p := rfl
@[simp] theorem halt_mpr (op : Byte) (s : State) : (halt op s).mpr = s.mpr := rfl
@[simp] theorem halt_pageR (op : Byte) (s : State) : (halt op s).pageR = s.pageR := rfl
@[simp] theorem halt_pageW (op : Byte) (s : State) : (halt op s).pageW = s.pageW := rfl
@[simp] theorem halt_mem (op : Byte) (s : State) : (halt op s).mem = s.mem := rfl
@[simp] theorem halt_scanCycles (op : Byte) (s : State) : (halt op s).scanCycles = s.scanCycles := rfl
@[simp] theorem halt_timerDelta (op : Byte) (s : State) : (halt op s).timerDelta = s.timerDelta := rfl
@[simp] theorem halt_pending (op : Byte) (s : State) : (halt op s).pending = s.pending := rfl
@[simp] theorem halt_status (op : Byte) (s : State) : (halt op s).status = .halted s.pc op := rfl
@[simp] theorem halt_platform (op : Byte) (s : State) : (halt op s).platform = s.platform := rfl
@[simp] theorem halt_draws (op : Byte) (s : State) : (halt op s).draws = s.draws := rfl
@[simp] theorem halt_calls (op : Byte) (s : State) : (halt op s).calls = .dump s.a s.x s.y s.sp s.p s.pc s.mpr :: s.calls := rfl

@[simp] theorem request_a (src : Config.Source) (s : State) : (request src s).a = s.a := rfl
@[simp] theorem request_x (src : Config.Source) (s : State) : (request src s).x = s.x := rfl
@[simp] theorem request_y (src : Config.Source) (s : State) : (request src s).y = s.y := rfl
@[simp] theorem request_sp (src : Config.Source) (s : State) : (request src s).sp = s.sp := rfl
@[simp] theorem request_pc (src : Config.Source) (s : State) : (request src s).pc = s.pc := rfl
@[simp] theorem request_p (src : Config.Source) (s : State) : (request src s).p = s.p := rfl
@[simp] theorem request_mpr (src : Config.Source) (s : State) : (request src s).mpr = s.mpr := rfl
@[simp] theorem request_pageR (src : Config.Source) (s : State) : (request src s).pageR = s.pageR := rfl
@[simp] theorem request_pageW (src : Config.Source) (s : State) : (request src s).pageW = s.pageW := rfl
@[simp] theorem request_mem (src : Config.Source) (s : State) : (request src s).mem = s.mem := rfl
@[simp] theorem request_scanCycles (src : Config.Source) (s : State) : (request src s).scanCycles = s.scanCycles := rfl
@[simp] theorem request_timerDelta (src : Config.Source) (s : State) : (request src s).timerDelta = s.timerDelta := rfl
@[simp] theorem request_pending (src : Config.Source) (s : State) : (request src s).pending = s.pending.put src true := rfl
@[simp] theorem request_status (src : Config.Source) (s : State) : (request src s).status = s.status := rfl
@[simp] theorem request_platform (src : Config.Source) (s : State) : (request src s).platform = s.platform := rfl
@[simp] theorem request_draws (src : Config.Source) (s : State) : (request src s).draws = s.draws := rfl
@[simp] theorem request_calls (src : Config.Source) (s : State) : (request src s).calls = s.calls := rfl

@[simp] theorem hostPause_a (s : State) : (hostPause s).a = s.a := rfl
@[simp] theorem hostPause_x (s : State) : (hostPause s).x = s.x := rfl
@[simp] theorem hostPause_y (s : State) : (hostPause s).y = s.y := rfl
@[simp] theorem hostPause_sp (s : State) : (hostPause s).sp = s.sp := rfl
@[simp] theorem hostPause_pc (s : State) : (hostPause s).pc = s.pc := rfl
@[simp] theorem hostPause_p (s : State) : (hostPause s).p = s.p := rfl
@[simp] theorem hostPause_mpr (s : State) : (hostPause s).mpr = s.mpr := rfl
@[simp] theorem hostPause_pageR (s : State) : (hostPause s).pageR = s.pageR := rfl
@[simp] theorem hostPause_pageW (s : State) : (hostPause s).pageW = s.pageW := rfl
@[simp] theorem hostPause_mem (s : State) : (hostPause s).mem = s.mem := rfl
@[simp] theorem hostPause_scanCycles (s : State) : (hostPause s).scanCycles = s.scanCycles := rfl
@[simp] theorem hostPause_timerDelta (s : State) : (hostPause s).timerDelta = s.timerDelta + pauseValue s := rfl
@[simp] theorem hostPause_pending (s : State) : (hostPause s).pending = s.pending := rfl
@[simp] theorem hostPause_status (s : State) : (hostPause s).status = s.status := rfl
@[simp] theorem hostPause_draws (s : State) : (hostPause s).draws = s.draws + 1 := rfl
@[simp] theorem hostPause_calls (s : State) : (hostPause s).calls = s.calls := rfl

@[simp] theorem callPeriod_a (s : State) : (callPeriod s).a = s.a := rfl
@[simp] theorem callPeriod_x (s : State) : (callPeriod s).x = s.x := rfl
@[simp] theorem callPeriod_y (s : State) : (callPeriod s).y = s.y := rfl
@[simp] theorem callPeriod_sp (s : State) : (callPeriod s).sp = s.sp := rfl
@[simp] theorem callPeriod_pc (s : State) : (callPeriod s).pc = s.pc := rfl
@[simp] theorem callPeriod_p (s : State) : (callPeriod s).p = s.p := rfl
@[simp] theorem callPeriod_mpr (s : State) : (callPeriod s).mpr = s.mpr := rfl
@[simp] theorem callPeriod_pageR (s : State) : (callPeriod s).pageR = s.pageR := rfl
@[simp] theorem callPeriod_pageW (s : State) : (callPeriod s).pageW = s.pageW := rfl
@[simp] theorem callPeriod_mem (s : State) : (callPeriod s).mem = s.mem := rfl
@[simp] theorem callPeriod_scanCycles (s : State) : (callPeriod s).scanCycles = s.scanCycles := rfl
@[simp] theorem callPeriod_timerDelta (s : State) : (callPeriod s).timerDelta = s.timerDelta := rfl
@[simp] theorem callPeriod_pending (s : State) : (callPeriod s).pending = s.pending := rfl
@[simp] theorem callPeriod_status (s : State) : (callPeriod s).status = s.status := rfl
@[simp] theorem callPeriod_draws (s : State) : (callPeriod s).draws = s.draws + 1 := rfl
@[simp] theorem callPeriod_calls (s : State) : (callPeriod s).calls = .timerPeriod (periodValue s) :: s.calls := rfl

/-! Operations that may call the I/O handler: everything but the collaborators' bookkeeping. -/

@[simp] theorem memRead_a (addr : Word) (s : State) : (memRead addr s).2.a = s.a := by unfold memRead; split <;> rfl
@[simp] theorem memRead_x (addr : Word) (s : State) : (memRead addr s).2.x = s.x := by unfold memRead; split <;> rfl
@[simp] theorem memRead_y (addr : Word) (s : State) : (memRead addr s).2.y = s.y := by unfold memRead; split <;> rfl
@[simp] theorem memRead_sp (addr : Word) (s : State) : (memRead addr s).2.sp = s.sp := by unfold memRead; split <;> rfl
@[simp] theorem memRead_pc (addr : Word) (s : State) : (memRead addr s).2.pc = s.pc := by unfold memRead; split <;> rfl
@[simp] theorem memRead_p (addr : Word) (s : State) : (memRead addr s).2.p = s.p := by unfold memRead; split <;> rfl
@[simp] theorem memRead_mpr (addr : Word) (s : State) : (memRead addr s).2.mpr = s.mpr := by unfold memRead; split <;> rfl
@[simp] theorem memRead_pageR (addr : Word) (s : State) : (memRead addr s).2.pageR = s.pageR := by unfold memRead; split <;> rfl
@[simp] theorem memRead_pageW (addr : Word) (s : State) : (memRead addr s).2.pageW = s.pageW := by unfold memRead; split <;> rfl
@[simp] theorem memRead_mem (addr : Word) (s : State) : (memRead addr s).2.mem = s.mem := by unfold memRead; split <;> rfl
@[simp] theorem memRead_scanCycles (addr : Word) (s : State) : (memRead addr s).2.scanCycles = s.scanCycles := by unfold memRead; split <;> rfl
@[simp] theorem memRead_timerDelta (addr : Word) (s : State) : (memRead addr s).2.timerDelta = s.timerDelta := by unfold memRead; split <;> rfl
@[simp] theorem memRead_pending (addr : Word) (s : State) : (memRead addr s).2.pending = s.pending := by unfold memRead; split <;> rfl
@[simp] theorem memRead_status (addr : Word) (s : State) : (memRead addr s).2.status = s.status := by unfold memRead; split <;> rfl

@[simp] theorem memWrite_a (addr : Word) (v : Byte) (s : State) : (memWrite addr v s).a = s.a := by
  unfold memWrite; split <;> rfl
@[simp] theorem memWrite_x (addr : Word) (v : Byte) (s : State) : (memWrite addr v s).x = s.x := by
  unfold memWrite; split <;> rfl
@[simp] theorem memWrite_y (addr : Word) (v : Byte) (s : State) : (memWrite addr v s).y = s.y := by
  unfold memWrite; split <;> rfl
@[simp] theorem memWrite_sp (addr : Word) (v : Byte) (s : State) : (memWrite addr v s).sp = s.sp := by
  unfold memWrite; split <;> rfl
@[simp] theorem memWrite_pc (addr : Word) (v : Byte) (s : State) : (memWrite addr v s).pc = s.pc := by
  unfold memWrite; split <;> rfl
@[simp] theorem memWrite_p (addr : Word) (v : Byte) (s : State) : (memWrite addr v s).p = s.p := by
  unfold memWrite; split <;> rfl
@[simp] theorem memWrite_mpr (addr : Word) (v : Byte) (s : State) : (memWrite addr v s).mpr = s.mpr := by
  unfold memWrite; split <;> rfl
@[simp] theorem memWrite_pageR (addr : Word) (v : Byte) (s : State) : (memWrite addr v s).pageR = s.pageR := by
  unfold memWrite; split <;> rfl
@[simp] theorem memWrite_pageW (addr : Word) (v : Byte) (s : State) : (memWrite addr v s).pageW = s.pageW := by
  unfold memWrite; split <;> rfl
@[simp] theorem memWrite_scanCycles (addr : Word) (v : Byte) (s : State) : (memWrite addr v s).scanCycles = s.scanCycles := by
  unfold memWrite; split <;> rfl
@[simp] theorem memWrite_timerDelta (addr : Word) (v : Byte) (s : State) : (memWrite addr v s).timerDelta = s.timerDelta := by
  unfold memWrite; split <;> rfl
@[simp] theorem memWrite_pending (addr : Word) (v : Byte) (s : State) : (memWrite addr v s).pending = s.pending := by
  unfold memWrite; split <;> rfl
@[simp] theorem memWrite_status (addr : Word) (v : Byte) (s : State) : (memWrite addr v s).status = s.status := by
  unfold memWrite; split <;> rfl
@[simp] theorem memWrite_platform (addr : Word) (v : Byte) (s : State) : (memWrite addr v s).platform = s.platform := by
  unfold memWrite; split <;> rfl
@[simp] theorem memWrite_draws (addr : Word) (v : Byte) (s : State) : (memWrite addr v s).draws = s.draws := by
  unfold memWrite; split <;> rfl

@[simp] theorem memRead16_a (addr : Word) (s : State) : (memRead16 addr s).2.a = s.a := by simp [memRead16]
@[simp] theorem memRead16_x (addr : Word) (s : State) : (memRead16 addr s).2.x = s.x := by simp [memRead16]
@[simp] theorem memRead16_y (addr : Word) (s : State) : (memRead16 addr s).2.y = s.y := by simp [memRead16]
@[simp] theorem memRead16_sp (addr : Word) (s : State) : (memRead16 addr s).2.sp = s.sp := by simp [memRead16]
@[simp] theorem memRead16_p (addr : Word) (s : State) : (memRead16 addr s).2.p = s.p := by simp [memRead16]
@[simp] theorem memRead16_mpr (addr : Word) (s : State) : (memRead16 addr s).2.mpr = s.mpr := by simp [memRead16]
@[simp] theorem memRead16_pageR (addr : Word) (s : State) : (memRead16 addr s).2.pageR = s.pageR := by simp [memRead16]
@[simp] theorem memRead16_pageW (addr : Word) (s : State) : (memRead16 addr s).2.pageW = s.pageW := by simp [memRead16]
@[simp] theorem memRead16_mem (addr : Word) (s : State) : (memRead16 addr s).2.mem = s.mem := by simp [memRead16]
@[simp] theorem memRead16_scanCycles (addr : Word) (s : State) : (memRead16 addr s).2.scanCycles = s.scanCycles := by simp [memRead16]
@[simp] theorem memRead16_timerDelta (addr : Word) (s : State) : (memRead16 addr s).2.timerDelta = s.timerDelta := by simp [memRead16]
@[simp] theorem memRead16_pending (addr : Word) (s : State) : (memRead16 addr s).2.pending = s.pending := by simp [memRead16]
@[simp] theorem memRead16_status (addr : Word) (s : State) : (memRead16 addr s).2.status = s.status := by simp [memRead16]
@[simp] theorem memRead16_pc (addr : Word) (s : State) : (memRead16 addr s).2.pc = s.pc := by simp [memRead16]

@[simp] theorem readLoc_a (l : Loc) (s : State) : (readLoc l s).2.a = s.a := by cases l <;> simp [readLoc]
@[simp] theorem readLoc_x (l : Loc) (s : State) : (readLoc l s).2.x = s.x := by cases l <;> simp [readLoc]
@[simp] theorem readLoc_y (l : Loc) (s : State) : (readLoc l s).2.y = s.y := by cases l <;> simp [readLoc]
@[simp] theorem readLoc_sp (l : Loc) (s : State) : (readLoc l s).2.sp = s.sp := by cases l <;> simp [readLoc]
@[simp] theorem readLoc_pc (l : Loc) (s : State) : (readLoc l s).2.pc = s.pc := by cases l <;> simp [readLoc]
@[simp] theorem readLoc_p (l : Loc) (s : State) : (readLoc l s).2.p = s.p := by cases l <;> simp [readLoc]
@[simp] theorem readLoc_mpr (l : Loc) (s : State) : (readLoc l s).2.mpr = s.mpr := by cases l <;> simp [readLoc]
@[simp] theorem readLoc_pageR (l : Loc) (s : State) : (readLoc l s).2.pageR = s.pageR := by cases l <;> simp [readLoc]
@[simp] theorem readLoc_pageW (l : Loc) (s : State) : (readLoc l s).2.pageW = s.pageW := by cases l <;> simp [readLoc]
@[simp] theorem readLoc_mem (l : Loc) (s : State) : (readLoc l s).2.mem = s.mem := by cases l <;> simp [readLoc]
@[simp] theorem readLoc_scanCycles (l : Loc) (s : State) : (readLoc l s).2.scanCycles = s.scanCycles := by cases l <;> simp [readLoc]
@[simp] theorem readLoc_timerDelta (l : Loc) (s : State) : (readLoc l s).2.timerDelta = s.timerDelta := by cases l <;> simp [readLoc]
@[simp] theorem readLoc_pending (l : Loc) (s : State) : (readLoc l s).2.pending = s.pending := by cases l <;> simp [readLoc]
@[simp] theorem readLoc_status (l : Loc) (s : State) : (readLoc l s).2.status = s.status := by cases l <;> simp [readLoc]

@[simp] theorem writeLoc_a (l : Loc) (v : Byte) (s : State) : (writeLoc l v s).a = s.a := by
  cases l <;> simp [writeLoc]
@[simp] theorem writeLoc_x (l : Loc) (v : Byte) (s : State) : (writeLoc l v s).x = s.x := by
  cases l <;> simp [writeLoc]
@[simp] theorem writeLoc_y (l : Loc) (v : Byte) (s : State) : (writeLoc l v s).y = s.y := by
  cases l <;> simp [writeLoc]
@[simp] theorem writeLoc_sp (l : Loc) (v : Byte) (s : State) : (writeLoc l v s).sp = s.sp := by
  cases l <;> simp [writeLoc]
@[simp] theorem writeLoc_pc (l : Loc) (v : Byte) (s : State) : (writeLoc l v s).pc = s.pc := by
  cases l <;> simp [writeLoc]
@[simp] theorem writeLoc_p (l : Loc) (v : Byte) (s : State) : (writeLoc l v s).p = s.p := by
  cases l <;> simp [writeLoc]
@[simp] theorem writeLoc_mpr (l : Loc) (v : Byte) (s : State) : (writeLoc l v s).mpr = s.mpr := by
  cases l <;> simp [writeLoc]
@[simp] theorem writeLoc_pageR (l : Loc) (v : Byte) (s : State) : (writeLoc l v s).pageR = s.pageR := by
  cases l <;> simp [writeLoc]
@[simp] theorem writeLoc_pageW (l : Loc) (v : Byte) (s : State) : (writeLoc l v s).pageW = s.pageW := by
  cases l <;> simp [writeLoc]
@[simp] theorem writeLoc_scanCycles (l : Loc) (v : Byte) (s : State) : (writeLoc l v s).scanCycles = s.scanCycles := by
  cases l <;> simp [writeLoc]
@[simp] theorem writeLoc_timerDelta (l : Loc) (v : Byte) (s : State) : (writeLoc l v s).timerDelta = s.timerDelta := by
  cases l <;> simp [writeLoc]
@[simp] theorem writeLoc_pending (l : Loc) (v : Byte) (s : State) : (writeLoc l v s).pending = s.pending := by
  cases l <;> simp [writeLoc]
@[simp] theorem writeLoc_status (l : Loc) (v : Byte) (s : State) : (writeLoc l v s).status = s.status := by
  cases l <;> simp [writeLoc]
@[simp] theorem writeLoc_platform (l : Loc) (v : Byte) (s : State) : (writeLoc l v s).platform = s.platform := by
  cases l <;> simp [writeLoc]
@[simp] theorem writeLoc_draws (l : Loc) (v : Byte) (s : State) : (writeLoc l v s).draws = s.draws := by
  cases l <;> simp [writeLoc]

@[simp] theorem operand_a (m : Src) (s : State) : (operand m s).2.a = s.a := by cases m <;> simp [operand]
@[simp] theorem operand_x (m : Src) (s : State) : (operand m s).2.x = s.x := by cases m <;> simp [operand]
@[simp] theorem operand_y (m : Src) (s : State) : (operand m s).2.y = s.y := by cases m <;> simp [operand]
@[simp] theorem operand_sp (m : Src) (s : State) : (operand m s).2.sp = s.sp := by cases m <;> simp [operand]
@[simp] theorem operand_pc (m : Src) (s : State) : (operand m s).2.pc = s.pc := by cases m <;> simp [operand]
@[simp] theorem operand_p (m : Src) (s : State) : (operand m s).2.p = s.p := by cases m <;> simp [operand]
@[simp] theorem operand_mpr (m : Src) (s : State) : (operand m s).2.mpr = s.mpr := by cases m <;> simp [operand]
@[simp] theorem operand_pageR (m : Src) (s : State) : (operand m s).2.pageR = s.pageR := by cases m <;> simp [operand]
@[simp] theorem operand_pageW (m : Src) (s : State) : (operand m s).2.pageW = s.pageW := by cases m <;> simp [operand]
@[simp] theorem operand_mem (m : Src) (s : State) : (operand m s).2.mem = s.mem := by cases m <;> simp [operand]
@[simp] theorem operand_scanCycles (m : Src) (s : State) : (operand m s).2.scanCycles = s.scanCycles := by cases m <;> simp [operand]
@[simp] theorem operand_timerDelta (m : Src) (s : State) : (operand m s).2.timerDelta = s.timerDelta := by cases m <;> simp [operand]
@[simp] theorem operand_pending (m : Src) (s : State) : (operand m s).2.pending = s.pending := by cases m <;> simp [operand]
@[simp] theorem operand_status (m : Src) (s : State) : (operand m s).2.status = s.status := by cases m <;> simp [operand]

end Sys2Proof.Machine
end

