-- ==== Sys2Proof/Laws/Ops.lean ====
section
/-! SUPPORT. What each shared operation can do, once: reads change only the record of calls and look at no counter, PC or
P; a write changes one byte or makes one call; a push writes below the stack pointer; canonical memory stays so. -/

namespace Sys2Proof.Machine

open Sys2Proof.Config

/-! ## Reads -/

/-- What a read of memory may look at: everything else may differ. `u` is `s` with other registers, counters, status. -/
def SameView (s u : State) : Prop :=
  u.pageR = s.pageR ∧ u.mem = s.mem ∧ u.platform = s.platform ∧ u.draws = s.draws ∧ u.calls = s.calls

/-- `u` with the collaborators' bookkeeping of `t`. -/
def withCallsOf (t u : State) : State := { u with platform := t.platform, draws := t.draws, calls := t.calls }

@[simp] theorem withCallsOf_a (t u : State) : (withCallsOf t u).a = u.a := rfl
@[simp] theorem withCallsOf_x (t u : State) : (withCallsOf t u).x = u.x := rfl
@[simp] theorem withCallsOf_y (t u : State) : (withCallsOf t u).y = u.y := rfl
@[simp] theorem withCallsOf_sp (t u : State) : (withCallsOf t u).sp = u.sp := rfl
@[simp] theorem withCallsOf_pc (t u : State) : (withCallsOf t u).pc = u.pc := rfl
@[simp] theorem withCallsOf_p (t u : State) : (withCallsOf t u).p = u.p := rfl
@[simp] theorem withCallsOf_mem (t u : State) : (withCallsOf t u).mem = u.mem := rfl
@[simp] theorem withCallsOf_status (t u : State) : (withCallsOf t u).status = u.status := rfl

/-- The spec lemma of `memRead`: its value and its calls depend on the view alone; it changes the calls alone. -/
theorem memRead_view {s u : State} (h : SameView s u) (addr : Word) :
    memRead addr u = ((memRead addr s).1, withCallsOf (memRead addr s).2 u) := by
  obtain ⟨h1, h2, h3, h4, h5⟩ := h
  unfold memRead readCell
  rw [h1]
  split
  · simp [withCallsOf, ← h2, ← h3, ← h4, ← h5]
  · simp [ioRead, ioReadValue, withCallsOf, h3, h4, h5]

theorem SameView.refl (s : State) : SameView s s := ⟨rfl, rfl, rfl, rfl, rfl⟩

/-- A view is the same after the same calls. -/
theorem SameView.withCallsOf {s u t : State} (h : SameView s u) (hp : t.pageR = s.pageR) (hm : t.mem = s.mem) :
    SameView t (withCallsOf t u) := ⟨h.1.trans hp.symm, h.2.1.trans hm.symm, rfl, rfl, rfl⟩

/-- A read changes nothing but the record of calls. -/
theorem memRead_state (addr : Word) (s : State) : (memRead addr s).2 = withCallsOf (memRead addr s).2 s :=
  congrArg Prod.snd (memRead_view (SameView.refl s) addr)

theorem zpRead_view {s u : State} (h : SameView s u) (z : Byte) : zpRead z u = zpRead z s := by
  simp [zpRead, h.2.1]

/-- The spec lemma of `Mode.loc`: it looks at X, Y and the zero page. -/
theorem loc_view {s u : State} (h : SameView s u) (hx : u.x = s.x) (hy : u.y = s.y) (m : Mode) : m.loc u = m.loc s := by
  cases m <;> simp [Mode.loc, zpRead16, zpRead_view h, hx, hy]

/-- The spec lemma of `readLoc`. -/
theorem readLoc_view {s u : State} (h : SameView s u) (l : Loc) :
    readLoc l u = ((readLoc l s).1, withCallsOf (readLoc l s).2 u) := by
  cases l with
  | zp z =>
    obtain ⟨_, _, h3, h4, h5⟩ := id h
    simp [readLoc, zpRead_view h, withCallsOf, ← h3, ← h4, ← h5]
  | log addr => exact memRead_view h addr

/-- The spec lemma of `operand`. -/
theorem operand_view {s u : State} (h : SameView s u) (hx : u.x = s.x) (hy : u.y = s.y) (m : Src) :
    operand m u = ((operand m s).1, withCallsOf (operand m s).2 u) := by
  cases m with
  | imm v =>
    obtain ⟨_, _, h3, h4, h5⟩ := h
    simp [operand, withCallsOf, ← h3, ← h4, ← h5]
  | mem m => simp only [operand, loc_view h hx hy]; exact readLoc_view h _

theorem operand_state (m : Src) (s : State) : (operand m s).2 = withCallsOf (operand m s).2 s :=
  congrArg Prod.snd (operand_view (SameView.refl s) rfl rfl m)

theorem readLoc_state (l : Loc) (s : State) : (readLoc l s).2 = withCallsOf (readLoc l s).2 s :=
  congrArg Prod.snd (readLoc_view (SameView.refl s) l)

theorem sameView_advance (n c : Nat) (s : State) : SameView s (advance n c s) := ⟨rfl, rfl, rfl, rfl, rfl⟩

theorem sameView_start (op : Byte) (n : Nat) (s : State) : SameView s (start op n s) := ⟨rfl, rfl, rfl, rfl, rfl⟩

/-- Reading an operand and moving past the instruction come in either order. -/
theorem operand_advance (m : Src) (n c : Nat) (s : State) :
    operand m (advance n c s) = ((operand m s).1, advance n c (operand m s).2) := by
  rw [operand_view (sameView_advance n c s) rfl rfl m, operand_state m s]
  rfl

theorem operand_start (m : Src) (op : Byte) (n : Nat) (s : State) :
    operand m (start op n s) = ((operand m s).1, start op n (operand m s).2) := operand_advance m n (cycles op) s

theorem readLoc_advance (l : Loc) (n c : Nat) (s : State) :
    readLoc l (advance n c s) = ((readLoc l s).1, advance n c (readLoc l s).2) := by
  rw [readLoc_view (sameView_advance n c s) l, readLoc_state l s]
  rfl

theorem readLoc_start (l : Loc) (op : Byte) (n : Nat) (s : State) :
    readLoc l (start op n s) = ((readLoc l s).1, start op n (readLoc l s).2) := readLoc_advance l n (cycles op) s

theorem loc_start (m : Mode) (op : Byte) (n : Nat) (s : State) : m.loc (start op n s) = m.loc s :=
  loc_view (sameView_start op n s) rfl rfl m

theorem zpRead_start (z op : Byte) (n : Nat) (s : State) : zpRead z (start op n s) = zpRead z s := rfl

theorem mkWord_toNat (hi lo : Byte) : (mkWord hi lo).toNat = lo.toNat + 256 * hi.toNat := by
  simp only [mkWord, BitVec.toNat_append]
  rw [← Nat.shiftLeft_add_eq_or_of_lt lo.isLt, Nat.shiftLeft_eq]
  omega

/-- A zero-page pointer as a number: its high byte is at the next index mod 256. -/
theorem zpRead16_toNat (z : Byte) (s : State) :
    (zpRead16 z s).toNat = (zpRead z s).toNat + 256 * (zpRead (z + 1) s).toNat := mkWord_toNat _ _

/-- A read reaches the I/O handler only through the sentinel: otherwise it changes nothing. -/
theorem memRead_buffer {addr : Word} {s : State} {k : Nat} (h : readCell addr s = some k) :
    memRead addr s = (s.mem.read k, s) := by simp [memRead, h]

theorem memRead_io {addr : Word} {s : State} (h : readCell addr s = none) : memRead addr s = ioRead addr s := by
  simp [memRead, h]

/-! ## Writes -/

theorem memWrite_buffer {addr : Word} {v : Byte} {s : State} {k : Nat} (h : writeCell addr s = some k) :
    memWrite addr v s = writeMem k v s := by simp [memWrite, h]

theorem memWrite_io {addr : Word} {v : Byte} {s : State} (h : writeCell addr s = none) :
    memWrite addr v s = ioWrite addr v s := by simp [memWrite, h]

/-- The spec lemma of `writeLoc`: one byte of a buffer, or one call. -/
theorem writeLoc_cases (l : Loc) (v : Byte) (s : State) :
    (∃ k, l.cell s = some k ∧ writeLoc l v s = writeMem k v s) ∨
    (∃ addr, l = .log addr ∧ l.cell s = none ∧ writeLoc l v s = ioWrite addr v s) := by
  cases l with
  | zp z => exact .inl ⟨_, rfl, rfl⟩
  | log addr =>
    cases h : writeCell addr s with
    | some k => exact .inl ⟨k, h, memWrite_buffer h⟩
    | none => exact .inr ⟨addr, rfl, h, memWrite_io h⟩

theorem writeLoc_state (l : Loc) (v : Byte) (s : State) :
    writeLoc l v s = { s with mem := (writeLoc l v s).mem, calls := (writeLoc l v s).calls } := by
  rcases writeLoc_cases l v s with ⟨k, _, e⟩ | ⟨addr, _, _, e⟩ <;> rw [e] <;> rfl

/-- The spec lemma of `push`: the byte lies at the old stack pointer's place, nothing else moves but S. -/
theorem push_eq (v : Byte) (s : State) :
    push v s = { s with mem := s.mem.write (stackCell s.sp) v, sp := s.sp - 1 } := rfl

theorem stackCell_inj {a b : Byte} : stackCell a = stackCell b ↔ a = b := by
  constructor
  · intro h
    apply BitVec.eq_of_toNat_eq
    simp only [stackCell, cellKey] at h
    omega
  · exact fun h => h ▸ rfl

theorem zpCell_inj {a b : Byte} : zpCell a = zpCell b ↔ a = b := by
  constructor
  · intro h
    apply BitVec.eq_of_toNat_eq
    simp only [zpCell, cellKey] at h
    omega
  · exact fun h => h ▸ rfl

/-- The zero page and the stack page do not overlap (R80, R82). -/
theorem zpCell_ne_stackCell (a b : Byte) : zpCell a ≠ stackCell b := by
  have := a.isLt
  simp only [zpCell, stackCell, cellKey]
  omega

theorem pull_push (v : Byte) (s : State) : (pull (push v s)).1 = v := by simp

/-! ## The mapping registers and tables -/

@[simp] theorem vget_set_same {α : Type} (v : Vector α 8) (i : Fin 8) (x : α) : (v.set i x).get i = x := by
  simp [Vector.get_eq_getElem]

theorem vget_set_other {α : Type} (v : Vector α 8) {i j : Fin 8} (h : j ≠ i) (x : α) : (v.set i x).get j = v.get j := by
  have : (i : Nat) ≠ j := fun e => h (Fin.ext e.symm)
  simp [Vector.get_eq_getElem, this]

/-! ## Block transfers and bank switching -/

/-- A block transfer changes memory and the record of calls (R300). -/
theorem copyBytes_state (f g : Nat → Word) (n : Nat) : ∀ (k : Nat) (s : State), copyBytes f g n k s =
    { s with mem := (copyBytes f g n k s).mem, platform := (copyBytes f g n k s).platform,
             draws := (copyBytes f g n k s).draws, calls := (copyBytes f g n k s).calls } := by
  induction n with
  | zero => exact fun _ _ => rfl
  | succ n ih =>
    intro k s
    have hw : ∀ addr v u, memWrite addr v u =
        { u with mem := (memWrite addr v u).mem, calls := (memWrite addr v u).calls } :=
      fun addr v u => writeLoc_state (.log addr) v u
    simp only [copyBytes]
    rw [ih, hw, memRead_state]
    rfl

/-- TAM changes the mapping registers, the page tables and the record of calls (R320). -/
theorem foldBanks_state (mask v : Byte) (l : List (Fin 8)) : ∀ s : State, l.foldl (bankStep mask v) s =
    { s with mpr := (l.foldl (bankStep mask v) s).mpr, pageR := (l.foldl (bankStep mask v) s).pageR,
             pageW := (l.foldl (bankStep mask v) s).pageW, calls := (l.foldl (bankStep mask v) s).calls } := by
  induction l with
  | nil => exact fun _ => rfl
  | cons i l ih =>
    intro s
    simp only [List.foldl]
    rw [ih]
    unfold bankStep
    split <;> rfl

@[simp] theorem copyBytes_a (f g : Nat → Word) (n k : Nat) (s : State) : (copyBytes f g n k s).a = s.a := by
  rw [copyBytes_state]
@[simp] theorem copyBytes_x (f g : Nat → Word) (n k : Nat) (s : State) : (copyBytes f g n k s).x = s.x := by
  rw [copyBytes_state]
@[simp] theorem copyBytes_y (f g : Nat → Word) (n k : Nat) (s : State) : (copyBytes f g n k s).y = s.y := by
  rw [copyBytes_state]
@[simp] theorem copyBytes_sp (f g : Nat → Word) (n k : Nat) (s : State) : (copyBytes f g n k s).sp = s.sp := by
  rw [copyBytes_state]
@[simp] theorem copyBytes_pc (f g : Nat → Word) (n k : Nat) (s : State) : (copyBytes f g n k s).pc = s.pc := by
  rw [copyBytes_state]
@[simp] theorem copyBytes_p (f g : Nat → Word) (n k : Nat) (s : State) : (copyBytes f g n k s).p = s.p := by
  rw [copyBytes_state]
@[simp] theorem copyBytes_mpr (f g : Nat → Word) (n k : Nat) (s : State) : (copyBytes f g n k s).mpr = s.mpr := by
  rw [copyBytes_state]
@[simp] theorem copyBytes_pageR (f g : Nat → Word) (n k : Nat) (s : State) : (copyBytes f g n k s).pageR = s.pageR := by
  rw [copyBytes_state]
@[simp] theorem copyBytes_pageW (f g : Nat → Word) (n k : Nat) (s : State) : (copyBytes f g n k s).pageW = s.pageW := by
  rw [copyBytes_state]
@[simp] theorem copyBytes_scanCycles (f g : Nat → Word) (n k : Nat) (s : State) : (copyBytes f g n k s).scanCycles = s.scanCycles := by
  rw [copyBytes_state]
@[simp] theorem copyBytes_timerDelta (f g : Nat → Word) (n k : Nat) (s : State) : (copyBytes f g n k s).timerDelta = s.timerDelta := by
  rw [copyBytes_state]
@[simp] theorem copyBytes_pending (f g : Nat → Word) (n k : Nat) (s : State) : (copyBytes f g n k s).pending = s.pending := by
  rw [copyBytes_state]
@[simp] theorem copyBytes_status (f g : Nat → Word) (n k : Nat) (s : State) : (copyBytes f g n k s).status = s.status := by
  rw [copyBytes_state]

@[simp] theorem foldBanks_a (m v : Byte) (l : List (Fin 8)) (s : State) : (l.foldl (bankStep m v) s).a = s.a := by
  rw [foldBanks_state]
@[simp] theorem foldBanks_x (m v : Byte) (l : List (Fin 8)) (s : State) : (l.foldl (bankStep m v) s).x = s.x := by
  rw [foldBanks_state]
@[simp] theorem foldBanks_y (m v : Byte) (l : List (Fin 8)) (s : State) : (l.foldl (bankStep m v) s).y = s.y := by
  rw [foldBanks_state]
@[simp] theorem foldBanks_sp (m v : Byte) (l : List (Fin 8)) (s : State) : (l.foldl (bankStep m v) s).sp = s.sp := by
  rw [foldBanks_state]
@[simp] theorem foldBanks_pc (m v : Byte) (l : List (Fin 8)) (s : State) : (l.foldl (bankStep m v) s).pc = s.pc := by
  rw [foldBanks_state]
@[simp] theorem foldBanks_p (m v : Byte) (l : List (Fin 8)) (s : State) : (l.foldl (bankStep m v) s).p = s.p := by
  rw [foldBanks_state]
@[simp] theorem foldBanks_mem (m v : Byte) (l : List (Fin 8)) (s : State) : (l.foldl (bankStep m v) s).mem = s.mem := by
  rw [foldBanks_state]
@[simp] theorem foldBanks_scanCycles (m v : Byte) (l : List (Fin 8)) (s : State) : (l.foldl (bankStep m v) s).scanCycles = s.scanCycles := by
  rw [foldBanks_state]
@[simp] theorem foldBanks_timerDelta (m v : Byte) (l : List (Fin 8)) (s : State) : (l.foldl (bankStep m v) s).timerDelta = s.timerDelta := by
  rw [foldBanks_state]
@[simp] theorem foldBanks_pending (m v : Byte) (l : List (Fin 8)) (s : State) : (l.foldl (bankStep m v) s).pending = s.pending := by
  rw [foldBanks_state]
@[simp] theorem foldBanks_status (m v : Byte) (l : List (Fin 8)) (s : State) : (l.foldl (bankStep m v) s).status = s.status := by
  rw [foldBanks_state]
@[simp] theorem foldBanks_platform (m v : Byte) (l : List (Fin 8)) (s : State) : (l.foldl (bankStep m v) s).platform = s.platform := by
  rw [foldBanks_state]
@[simp] theorem foldBanks_draws (m v : Byte) (l : List (Fin 8)) (s : State) : (l.foldl (bankStep m v) s).draws = s.draws := by
  rw [foldBanks_state]

/-! ## Canonical memory -/

theorem wf_writeMem {s : State} (h : s.mem.wf) (k : Nat) (v : Byte) : (writeMem k v s).mem.wf :=
  Memory.wf_write _ k v h

theorem wf_memWrite {s : State} (h : s.mem.wf) (addr : Word) (v : Byte) : (memWrite addr v s).mem.wf := by
  unfold memWrite
  split
  · exact wf_writeMem h _ v
  · exact h

theorem wf_writeLoc {s : State} (h : s.mem.wf) (l : Loc) (v : Byte) : (writeLoc l v s).mem.wf := by
  cases l with
  | zp z => exact wf_writeMem h _ v
  | log addr => exact wf_memWrite h addr v

theorem wf_push {s : State} (h : s.mem.wf) (v : Byte) : (push v s).mem.wf := Memory.wf_write _ _ v h

theorem wf_push16 {s : State} (h : s.mem.wf) (w : Word) : (push16 w s).mem.wf := wf_push (wf_push h _) _

theorem takeInterrupt_mem (ret : Word) (pushed : Byte) (setI : Bool) (vector : Word) (s : State) :
    (takeInterrupt ret pushed setI vector s).mem = (push pushed (push16 ret s)).mem := by
  cases setI <;> simp [takeInterrupt]

theorem wf_takeInterrupt {s : State} (h : s.mem.wf) (ret : Word) (pushed : Byte) (setI : Bool) (vector : Word) :
    (takeInterrupt ret pushed setI vector s).mem.wf := by
  rw [takeInterrupt_mem]; exact wf_push (wf_push16 h ret) pushed

theorem wf_copyBytes (f g : Nat → Word) (n : Nat) : ∀ (k : Nat) (s : State), s.mem.wf → (copyBytes f g n k s).mem.wf := by
  induction n with
  | zero => exact fun _ _ h => h
  | succ n ih => exact fun k s h => ih _ _ (wf_memWrite (by simpa using h) _ _)

end Sys2Proof.Machine
end

