-- ==== Sys2Proof/Laws/Effect.lean ====
section
/-! SUPPORT. What one instruction can do, said once: `exec_effect` lists the shared operations, each with what the rules
about all instructions need of it, so that such a rule takes one case an operation and not one an instruction. -/

namespace Sys2Proof.Laws

open Sys2Proof.Machine

/-- The undefined instructions with their opcode bytes (30_encoding.md R140). -/
def undefinedInstrs : List (Instr × Byte) :=
  [(.undef0B, 0x0B), (.undef1B, 0x1B), (.undef2B, 0x2B), (.undef33, 0x33), (.undef3B, 0x3B), (.undef4B, 0x4B),
   (.undef5B, 0x5B), (.undef5C, 0x5C), (.undef63, 0x63), (.undef6B, 0x6B), (.undef7B, 0x7B), (.undef8B, 0x8B)] ++
  [(.undef9B, 0x9B), (.undefAB, 0xAB), (.undefBB, 0xBB), (.undefCB, 0xCB), (.undefDB, 0xDB), (.undefDC, 0xDC),
   (.undefE2, 0xE2), (.undefEB, 0xEB), (.undefFB, 0xFB), (.undefFC, 0xFC)]

/-- `Effect i s t`: the instruction `i` may take `s` to `t`. The instructions that leave T as something else than clear,
change the mapping or halt have a constructor of their own. -/
inductive Effect : Instr → State → State → Prop
  | adc {i : Instr} {s : State} (op : Byte) (m : Src) (h : 2 ≤ cycles op) :
      Effect i s (adc op m s)
  | sbc {i : Instr} {s : State} (op : Byte) (m : Src) (h : 2 ≤ cycles op) :
      Effect i s (sbc op m s)
  | transferAlu {i : Instr} {s : State} (f : Byte → Byte → Byte → Result) (op : Byte) (m : Src) (hf : ∀ a b p, flag (f a b p).p .t = false) (h : 2 ≤ cycles op) :
      Effect i s (transferAlu f op m s)
  | compareReg {i : Instr} {s : State} (r : Reg) (op : Byte) (m : Src) (h : 2 ≤ cycles op) :
      Effect i s (compareReg r op m s)
  | modifyReg {i : Instr} {s : State} (f : Byte → Byte → Result) (r : Reg) (op : Byte) (hf : ∀ v p, flag (f v p).p .t = false) (h : 2 ≤ cycles op) :
      Effect i s (modifyReg f r op s)
  | modifyMem {i : Instr} {s : State} (f : Byte → Byte → Result) (op : Byte) (m : Mode) (hf : ∀ v p, flag (f v p).p .t = false) (h : 2 ≤ cycles op) :
      Effect i s (modifyMem f op m s)
  | modifyBits {i : Instr} {s : State} (a : Byte → Byte → Byte → Result) (op : Byte) (m : Mode) (hf : ∀ a₀ v p, flag (a a₀ v p).p .t = false) (h : 2 ≤ cycles op) :
      Effect i s (modifyMem (a s.a) op m s)
  | bitTest {i : Instr} {s : State} (op : Byte) (m : Src) (h : 2 ≤ cycles op) :
      Effect i s (bitTest op m s)
  | maskTest {i : Instr} {s : State} (v op : Byte) (m : Mode) (h : 2 ≤ cycles op) :
      Effect i s (maskTest v op m s)
  | modifyBit {i : Instr} {s : State} (f : Byte → Byte) (op z : Byte) (h : 2 ≤ cycles op) :
      Effect i s (modifyBit f op z s)
  | branchIf {i : Instr} {s : State} (f : Flag) (b : Bool) (op : Byte) (rel : Int) (h : 2 ≤ cycles op) :
      Effect i s (branchIf f b op rel s)
  | branchAlways {i : Instr} {s : State} (op : Byte) (rel : Int) (h : 2 ≤ cycles op) :
      Effect i s (branchAlways op rel s)
  | branchBit {i : Instr} {s : State} (n : Nat) (b : Bool) (op z : Byte) (rel : Int) (h : 2 ≤ cycles op) :
      Effect i s (branchBit n b op z rel s)
  | callRel {i : Instr} {s : State} (op : Byte) (rel : Int) (h : 2 ≤ cycles op) :
      Effect i s (callRel op rel s)
  | callAbs {i : Instr} {s : State} (op : Byte) (addr : Word) (h : 2 ≤ cycles op) :
      Effect i s (callAbs op addr s)
  | jump {i : Instr} {s : State} (op : Byte) (addr : Word) (h : 2 ≤ cycles op) :
      Effect i s (jump op addr s)
  | jumpIndirect {i : Instr} {s : State} (op : Byte) (n : Nat) (addr : Word) (h : 2 ≤ cycles op) :
      Effect i s (jumpIndirect op n addr s)
  | jumpIndexed {i : Instr} {s : State} (op : Byte) (n : Nat) (addr : Word) (h : 2 ≤ cycles op) :
      Effect i s (jumpIndirect op n (addr + zext s.x) s)
  | returnSub {i : Instr} {s : State} (op : Byte) (h : 2 ≤ cycles op) :
      Effect i s (returnSub op s)
  | softwareInterrupt {i : Instr} {s : State} (op : Byte) (h : 2 ≤ cycles op) :
      Effect i s (softwareInterrupt op s)
  | blockTransfer {i : Instr} {s : State} (f g : Nat → Word) (len : Word) :
      Effect i s (blockTransfer f g len s)
  | fromBanks {i : Instr} {s : State} (op mask : Byte) (h : 2 ≤ cycles op) :
      Effect i s (fromBanks op mask s)
  | portStore {i : Instr} {s : State} (port : Word) (op v : Byte) (h : 2 ≤ cycles op) :
      Effect i s (portStore port op v s)
  | load {i : Instr} {s : State} (r : Reg) (op : Byte) (m : Src) (h : 2 ≤ cycles op) :
      Effect i s (load r op m s)
  | store {i : Instr} {s : State} (r : Reg) (op : Byte) (m : Mode) (h : 2 ≤ cycles op) :
      Effect i s (store (s.get r) op m s)
  | storeZero {i : Instr} {s : State} (op : Byte) (m : Mode) (h : 2 ≤ cycles op) :
      Effect i s (store 0x00 op m s)
  | transfer {i : Instr} {s : State} (r q : Reg) (op : Byte) (h : 2 ≤ cycles op) :
      Effect i s (transfer r q op s)
  | swap {i : Instr} {s : State} (r q : Reg) (op : Byte) (h : 2 ≤ cycles op) :
      Effect i s (swap r q op s)
  | clearReg {i : Instr} {s : State} (r : Reg) (op : Byte) (h : 2 ≤ cycles op) :
      Effect i s (clearReg r op s)
  | pushReg {i : Instr} {s : State} (r : Reg) (op : Byte) (h : 2 ≤ cycles op) :
      Effect i s (pushReg r op s)
  | pushP {i : Instr} {s : State} (op : Byte) (h : 2 ≤ cycles op) :
      Effect i s (pushP op s)
  | pullReg {i : Instr} {s : State} (r : Reg) (op : Byte) (h : 2 ≤ cycles op) :
      Effect i s (pullReg r op s)
  | writeFlag {i : Instr} {s : State} (f : Flag) (b : Bool) (op : Byte) (h : 2 ≤ cycles op) :
      Effect i s (writeFlag f b op s)
  | idle {i : Instr} {s : State} (op : Byte) (h : 2 ≤ cycles op) :
      Effect i s (clearT (start op 1 s))
  | toStack {i : Instr} {s : State} (op : Byte) (h : 2 ≤ cycles op) :
      Effect i s (clearT ((start op 1 s).set .s s.x))
  | tam (v : Byte) {s : State} : Effect (.tam v) s (toBanks 0x53 v s)
  | set {s : State} : Effect .set s ((start 0xF4 1 s).putFlag .t true)
  | plp {s : State} : Effect .plp s (pullP 0x28 s)
  | rti {s : State} : Effect .rti s (returnInterrupt 0x40 s)
  | undefined {i : Instr} {s : State} {op : Byte} (h : (i, op) ∈ undefinedInstrs) : Effect i s (undefinedOpcode op s)

/-- An answer is a next state, and that one. -/
theorem effect_of_next {i : Instr} {s t u : State} (e : Effect i s u) (h : (Host.Outcome.next u : Out) = .next t) :
    Effect i s t := Host.Outcome.next.inj h ▸ e

theorem andCore_t (a b p : Byte) : flag (andCore a b p).p .t = false := by simp [andCore, flag_setNZ]
theorem orCore_t (a b p : Byte) : flag (orCore a b p).p .t = false := by simp [orCore, flag_setNZ]
theorem xorCore_t (a b p : Byte) : flag (xorCore a b p).p .t = false := by simp [xorCore, flag_setNZ]
theorem aslCore_t (v p : Byte) : flag (aslCore v p).p .t = false := by simp [aslCore, flag_setNZ]
theorem lsrCore_t (v p : Byte) : flag (lsrCore v p).p .t = false := by simp [lsrCore, flag_setNZ]
theorem rolCore_t (v p : Byte) : flag (rolCore v p).p .t = false := by simp [rolCore, flag_setNZ]
theorem rorCore_t (v p : Byte) : flag (rorCore v p).p .t = false := by simp [rorCore, flag_setNZ]
theorem incCore_t (v p : Byte) : flag (incCore v p).p .t = false := by simp [incCore, flag_setNZ]
theorem decCore_t (v p : Byte) : flag (decCore v p).p .t = false := by simp [decCore, flag_setNZ]
theorem tsbCore_t (a v p : Byte) : flag (tsbCore a v p).p .t = false := by simp [tsbCore, flag_setNVZ]
theorem trbCore_t (a v p : Byte) : flag (trbCore a v p).p .t = false := by simp [trbCore, flag_setNVZ]

/-- Every next state of every instruction is an effect. -/
theorem exec_effect (i : Instr) (s t : State) (h : exec i s = .next t) : Effect i s t := by
  cases i with
  | brk => exact effect_of_next (.softwareInterrupt _ (by decide)) h
  | oraZpix z => exact effect_of_next (.transferAlu _ _ _ orCore_t (by decide)) h
  | sxy => exact effect_of_next (.swap _ _ _ (by decide)) h
  | st0 v => exact effect_of_next (.portStore _ _ _ (by decide)) h
  | tsbZp z => exact effect_of_next (.modifyBits _ _ _ tsbCore_t (by decide)) h
  | oraZp z => exact effect_of_next (.transferAlu _ _ _ orCore_t (by decide)) h
  | aslZp z => exact effect_of_next (.modifyMem _ _ _ aslCore_t (by decide)) h
  | rmb0 z => exact effect_of_next (.modifyBit _ _ _ (by decide)) h
  | php => exact effect_of_next (.pushP _ (by decide)) h
  | oraImm v => exact effect_of_next (.transferAlu _ _ _ orCore_t (by decide)) h
  | aslAcc => exact effect_of_next (.modifyReg _ _ _ aslCore_t (by decide)) h
  | undef0B => exact effect_of_next (.undefined (op := 0x0B) (by decide)) h
  | tsbAbs addr => exact effect_of_next (.modifyBits _ _ _ tsbCore_t (by decide)) h
  | oraAbs addr => exact effect_of_next (.transferAlu _ _ _ orCore_t (by decide)) h
  | aslAbs addr => exact effect_of_next (.modifyMem _ _ _ aslCore_t (by decide)) h
  | bbr0 z rel => exact effect_of_next (.branchBit _ _ _ _ _ (by decide)) h
  | bpl rel => exact effect_of_next (.branchIf _ _ _ _ (by decide)) h
  | oraZpiy z => exact effect_of_next (.transferAlu _ _ _ orCore_t (by decide)) h
  | oraZpi z => exact effect_of_next (.transferAlu _ _ _ orCore_t (by decide)) h
  | st1 v => exact effect_of_next (.portStore _ _ _ (by decide)) h
  | trbZp z => exact effect_of_next (.modifyBits _ _ _ trbCore_t (by decide)) h
  | oraZpx z => exact effect_of_next (.transferAlu _ _ _ orCore_t (by decide)) h
  | aslZpx z => exact effect_of_next (.modifyMem _ _ _ aslCore_t (by decide)) h
  | rmb1 z => exact effect_of_next (.modifyBit _ _ _ (by decide)) h
  | clc => exact effect_of_next (.writeFlag _ _ _ (by decide)) h
  | oraAbsy addr => exact effect_of_next (.transferAlu _ _ _ orCore_t (by decide)) h
  | incAcc => exact effect_of_next (.modifyReg _ _ _ incCore_t (by decide)) h
  | undef1B => exact effect_of_next (.undefined (op := 0x1B) (by decide)) h
  | trbAbs addr => exact effect_of_next (.modifyBits _ _ _ trbCore_t (by decide)) h
  | oraAbsx addr => exact effect_of_next (.transferAlu _ _ _ orCore_t (by decide)) h
  | aslAbsx addr => exact effect_of_next (.modifyMem _ _ _ aslCore_t (by decide)) h
  | bbr1 z rel => exact effect_of_next (.branchBit _ _ _ _ _ (by decide)) h
  | jsr addr => exact effect_of_next (.callAbs _ _ (by decide)) h
  | andZpix z => exact effect_of_next (.transferAlu _ _ _ andCore_t (by decide)) h
  | sax => exact effect_of_next (.swap _ _ _ (by decide)) h
  | st2 v => exact effect_of_next (.portStore _ _ _ (by decide)) h
  | bitZp z => exact effect_of_next (.bitTest _ _ (by decide)) h
  | andZp z => exact effect_of_next (.transferAlu _ _ _ andCore_t (by decide)) h
  | rolZp z => exact effect_of_next (.modifyMem _ _ _ rolCore_t (by decide)) h
  | rmb2 z => exact effect_of_next (.modifyBit _ _ _ (by decide)) h
  | plp => exact effect_of_next (.plp) h
  | andImm v => exact effect_of_next (.transferAlu _ _ _ andCore_t (by decide)) h
  | rolAcc => exact effect_of_next (.modifyReg _ _ _ rolCore_t (by decide)) h
  | undef2B => exact effect_of_next (.undefined (op := 0x2B) (by decide)) h
  | bitAbs addr => exact effect_of_next (.bitTest _ _ (by decide)) h
  | andAbs addr => exact effect_of_next (.transferAlu _ _ _ andCore_t (by decide)) h
  | rolAbs addr => exact effect_of_next (.modifyMem _ _ _ rolCore_t (by decide)) h
  | bbr2 z rel => exact effect_of_next (.branchBit _ _ _ _ _ (by decide)) h
  | bmi rel => exact effect_of_next (.branchIf _ _ _ _ (by decide)) h
  | andZpiy z => exact effect_of_next (.transferAlu _ _ _ andCore_t (by decide)) h
  | andZpi z => exact effect_of_next (.transferAlu _ _ _ andCore_t (by decide)) h
  | undef33 => exact effect_of_next (.undefined (op := 0x33) (by decide)) h
  | bitZpx z => exact effect_of_next (.bitTest _ _ (by decide)) h
  | andZpx z => exact effect_of_next (.transferAlu _ _ _ andCore_t (by decide)) h
  | rolZpx z => exact effect_of_next (.modifyMem _ _ _ rolCore_t (by decide)) h
  | rmb3 z => exact effect_of_next (.modifyBit _ _ _ (by decide)) h
  | sec => exact effect_of_next (.writeFlag _ _ _ (by decide)) h
  | andAbsy addr => exact effect_of_next (.transferAlu _ _ _ andCore_t (by decide)) h
  | decAcc => exact effect_of_next (.modifyReg _ _ _ decCore_t (by decide)) h
  | undef3B => exact effect_of_next (.undefined (op := 0x3B) (by decide)) h
  | bitAbsx addr => exact effect_of_next (.bitTest _ _ (by decide)) h
  | andAbsx addr => exact effect_of_next (.transferAlu _ _ _ andCore_t (by decide)) h
  | rolAbsx addr => exact effect_of_next (.modifyMem _ _ _ rolCore_t (by decide)) h
  | bbr3 z rel => exact effect_of_next (.branchBit _ _ _ _ _ (by decide)) h
  | rti => exact effect_of_next (.rti) h
  | eorZpix z => exact effect_of_next (.transferAlu _ _ _ xorCore_t (by decide)) h
  | say => exact effect_of_next (.swap _ _ _ (by decide)) h
  | tma v => exact effect_of_next (.fromBanks _ _ (by decide)) h
  | bsr rel => exact effect_of_next (.callRel _ _ (by decide)) h
  | eorZp z => exact effect_of_next (.transferAlu _ _ _ xorCore_t (by decide)) h
  | lsrZp z => exact effect_of_next (.modifyMem _ _ _ lsrCore_t (by decide)) h
  | rmb4 z => exact effect_of_next (.modifyBit _ _ _ (by decide)) h
  | pha => exact effect_of_next (.pushReg _ _ (by decide)) h
  | eorImm v => exact effect_of_next (.transferAlu _ _ _ xorCore_t (by decide)) h
  | lsrAcc => exact effect_of_next (.modifyReg _ _ _ lsrCore_t (by decide)) h
  | undef4B => exact effect_of_next (.undefined (op := 0x4B) (by decide)) h
  | jmpAbs addr => exact effect_of_next (.jump _ _ (by decide)) h
  | eorAbs addr => exact effect_of_next (.transferAlu _ _ _ xorCore_t (by decide)) h
  | lsrAbs addr => exact effect_of_next (.modifyMem _ _ _ lsrCore_t (by decide)) h
  | bbr4 z rel => exact effect_of_next (.branchBit _ _ _ _ _ (by decide)) h
  | bvc rel => exact effect_of_next (.branchIf _ _ _ _ (by decide)) h
  | eorZpiy z => exact effect_of_next (.transferAlu _ _ _ xorCore_t (by decide)) h
  | eorZpi z => exact effect_of_next (.transferAlu _ _ _ xorCore_t (by decide)) h
  | tam v => exact effect_of_next (.tam _) h
  | csl => exact effect_of_next (.idle _ (by decide)) h
  | eorZpx z => exact effect_of_next (.transferAlu _ _ _ xorCore_t (by decide)) h
  | lsrZpx z => exact effect_of_next (.modifyMem _ _ _ lsrCore_t (by decide)) h
  | rmb5 z => exact effect_of_next (.modifyBit _ _ _ (by decide)) h
  | cli => exact effect_of_next (.writeFlag _ _ _ (by decide)) h
  | eorAbsy addr => exact effect_of_next (.transferAlu _ _ _ xorCore_t (by decide)) h
  | phy => exact effect_of_next (.pushReg _ _ (by decide)) h
  | undef5B => exact effect_of_next (.undefined (op := 0x5B) (by decide)) h
  | undef5C => exact effect_of_next (.undefined (op := 0x5C) (by decide)) h
  | eorAbsx addr => exact effect_of_next (.transferAlu _ _ _ xorCore_t (by decide)) h
  | lsrAbsx addr => exact effect_of_next (.modifyMem _ _ _ lsrCore_t (by decide)) h
  | bbr5 z rel => exact effect_of_next (.branchBit _ _ _ _ _ (by decide)) h
  | rts => exact effect_of_next (.returnSub _ (by decide)) h
  | adcZpix z => exact effect_of_next (.adc _ _ (by decide)) h
  | cla => exact effect_of_next (.clearReg _ _ (by decide)) h
  | undef63 => exact effect_of_next (.undefined (op := 0x63) (by decide)) h
  | stzZp z => exact effect_of_next (.storeZero _ _ (by decide)) h
  | adcZp z => exact effect_of_next (.adc _ _ (by decide)) h
  | rorZp z => exact effect_of_next (.modifyMem _ _ _ rorCore_t (by decide)) h
  | rmb6 z => exact effect_of_next (.modifyBit _ _ _ (by decide)) h
  | pla => exact effect_of_next (.pullReg _ _ (by decide)) h
  | adcImm v => exact effect_of_next (.adc _ _ (by decide)) h
  | rorAcc => exact effect_of_next (.modifyReg _ _ _ rorCore_t (by decide)) h
  | undef6B => exact effect_of_next (.undefined (op := 0x6B) (by decide)) h
  | jmpInd addr => exact effect_of_next (.jumpIndirect _ _ _ (by decide)) h
  | adcAbs addr => exact effect_of_next (.adc _ _ (by decide)) h
  | rorAbs addr => exact effect_of_next (.modifyMem _ _ _ rorCore_t (by decide)) h
  | bbr6 z rel => exact effect_of_next (.branchBit _ _ _ _ _ (by decide)) h
  | bvs rel => exact effect_of_next (.branchIf _ _ _ _ (by decide)) h
  | adcZpiy z => exact effect_of_next (.adc _ _ (by decide)) h
  | adcZpi z => exact effect_of_next (.adc _ _ (by decide)) h
  | tii src dst len => exact effect_of_next (.blockTransfer _ _ _) h
  | stzZpx z => exact effect_of_next (.storeZero _ _ (by decide)) h
  | adcZpx z => exact effect_of_next (.adc _ _ (by decide)) h
  | rorZpx z => exact effect_of_next (.modifyMem _ _ _ rorCore_t (by decide)) h
  | rmb7 z => exact effect_of_next (.modifyBit _ _ _ (by decide)) h
  | sei => exact effect_of_next (.writeFlag _ _ _ (by decide)) h
  | adcAbsy addr => exact effect_of_next (.adc _ _ (by decide)) h
  | ply => exact effect_of_next (.pullReg _ _ (by decide)) h
  | undef7B => exact effect_of_next (.undefined (op := 0x7B) (by decide)) h
  | jmpIndx addr => exact effect_of_next (.jumpIndexed _ _ _ (by decide)) h
  | adcAbsx addr => exact effect_of_next (.adc _ _ (by decide)) h
  | rorAbsx addr => exact effect_of_next (.modifyMem _ _ _ rorCore_t (by decide)) h
  | bbr7 z rel => exact effect_of_next (.branchBit _ _ _ _ _ (by decide)) h
  | bra rel => exact effect_of_next (.branchAlways _ _ (by decide)) h
  | staZpix z => exact effect_of_next (.store .a _ _ (by decide)) h
  | clx => exact effect_of_next (.clearReg _ _ (by decide)) h
  | tstZp v z => exact effect_of_next (.maskTest _ _ _ (by decide)) h
  | styZp z => exact effect_of_next (.store .y _ _ (by decide)) h
  | staZp z => exact effect_of_next (.store .a _ _ (by decide)) h
  | stxZp z => exact effect_of_next (.store .x _ _ (by decide)) h
  | smb0 z => exact effect_of_next (.modifyBit _ _ _ (by decide)) h
  | dey => exact effect_of_next (.modifyReg _ _ _ decCore_t (by decide)) h
  | bitImm v => exact effect_of_next (.bitTest _ _ (by decide)) h
  | txa => exact effect_of_next (.transfer _ _ _ (by decide)) h
  | undef8B => exact effect_of_next (.undefined (op := 0x8B) (by decide)) h
  | styAbs addr => exact effect_of_next (.store .y _ _ (by decide)) h
  | staAbs addr => exact effect_of_next (.store .a _ _ (by decide)) h
  | stxAbs addr => exact effect_of_next (.store .x _ _ (by decide)) h
  | bbs0 z rel => exact effect_of_next (.branchBit _ _ _ _ _ (by decide)) h
  | bcc rel => exact effect_of_next (.branchIf _ _ _ _ (by decide)) h
  | staZpiy z => exact effect_of_next (.store .a _ _ (by decide)) h
  | staZpi z => exact effect_of_next (.store .a _ _ (by decide)) h
  | tstAbs v addr => exact effect_of_next (.maskTest _ _ _ (by decide)) h
  | styZpx z => exact effect_of_next (.store .y _ _ (by decide)) h
  | staZpx z => exact effect_of_next (.store .a _ _ (by decide)) h
  | stxZpy z => exact effect_of_next (.store .x _ _ (by decide)) h
  | smb1 z => exact effect_of_next (.modifyBit _ _ _ (by decide)) h
  | tya => exact effect_of_next (.transfer _ _ _ (by decide)) h
  | staAbsy addr => exact effect_of_next (.store .a _ _ (by decide)) h
  | txs => exact effect_of_next (.toStack _ (by decide)) h
  | undef9B => exact effect_of_next (.undefined (op := 0x9B) (by decide)) h
  | stzAbs addr => exact effect_of_next (.storeZero _ _ (by decide)) h
  | staAbsx addr => exact effect_of_next (.store .a _ _ (by decide)) h
  | stzAbsx addr => exact effect_of_next (.storeZero _ _ (by decide)) h
  | bbs1 z rel => exact effect_of_next (.branchBit _ _ _ _ _ (by decide)) h
  | ldyImm v => exact effect_of_next (.load _ _ _ (by decide)) h
  | ldaZpix z => exact effect_of_next (.load _ _ _ (by decide)) h
  | ldxImm v => exact effect_of_next (.load _ _ _ (by decide)) h
  | tstZpx v z => exact effect_of_next (.maskTest _ _ _ (by decide)) h
  | ldyZp z => exact effect_of_next (.load _ _ _ (by decide)) h
  | ldaZp z => exact effect_of_next (.load _ _ _ (by decide)) h
  | ldxZp z => exact effect_of_next (.load _ _ _ (by decide)) h
  | smb2 z => exact effect_of_next (.modifyBit _ _ _ (by decide)) h
  | tay => exact effect_of_next (.transfer _ _ _ (by decide)) h
  | ldaImm v => exact effect_of_next (.load _ _ _ (by decide)) h
  | tax => exact effect_of_next (.transfer _ _ _ (by decide)) h
  | undefAB => exact effect_of_next (.undefined (op := 0xAB) (by decide)) h
  | ldyAbs addr => exact effect_of_next (.load _ _ _ (by decide)) h
  | ldaAbs addr => exact effect_of_next (.load _ _ _ (by decide)) h
  | ldxAbs addr => exact effect_of_next (.load _ _ _ (by decide)) h
  | bbs2 z rel => exact effect_of_next (.branchBit _ _ _ _ _ (by decide)) h
  | bcs rel => exact effect_of_next (.branchIf _ _ _ _ (by decide)) h
  | ldaZpiy z => exact effect_of_next (.load _ _ _ (by decide)) h
  | ldaZpi z => exact effect_of_next (.load _ _ _ (by decide)) h
  | tstAbsx v addr => exact effect_of_next (.maskTest _ _ _ (by decide)) h
  | ldyZpx z => exact effect_of_next (.load _ _ _ (by decide)) h
  | ldaZpx z => exact effect_of_next (.load _ _ _ (by decide)) h
  | ldxZpy z => exact effect_of_next (.load _ _ _ (by decide)) h
  | smb3 z => exact effect_of_next (.modifyBit _ _ _ (by decide)) h
  | clv => exact effect_of_next (.writeFlag _ _ _ (by decide)) h
  | ldaAbsy addr => exact effect_of_next (.load _ _ _ (by decide)) h
  | tsx => exact effect_of_next (.transfer _ _ _ (by decide)) h
  | undefBB => exact effect_of_next (.undefined (op := 0xBB) (by decide)) h
  | ldyAbsx addr => exact effect_of_next (.load _ _ _ (by decide)) h
  | ldaAbsx addr => exact effect_of_next (.load _ _ _ (by decide)) h
  | ldxAbsy addr => exact effect_of_next (.load _ _ _ (by decide)) h
  | bbs3 z rel => exact effect_of_next (.branchBit _ _ _ _ _ (by decide)) h
  | cpyImm v => exact effect_of_next (.compareReg _ _ _ (by decide)) h
  | cmpZpix z => exact effect_of_next (.compareReg _ _ _ (by decide)) h
  | cly => exact effect_of_next (.clearReg _ _ (by decide)) h
  | tdd src dst len => exact effect_of_next (.blockTransfer _ _ _) h
  | cpyZp z => exact effect_of_next (.compareReg _ _ _ (by decide)) h
  | cmpZp z => exact effect_of_next (.compareReg _ _ _ (by decide)) h
  | decZp z => exact effect_of_next (.modifyMem _ _ _ decCore_t (by decide)) h
  | smb4 z => exact effect_of_next (.modifyBit _ _ _ (by decide)) h
  | iny => exact effect_of_next (.modifyReg _ _ _ incCore_t (by decide)) h
  | cmpImm v => exact effect_of_next (.compareReg _ _ _ (by decide)) h
  | dex => exact effect_of_next (.modifyReg _ _ _ decCore_t (by decide)) h
  | undefCB => exact effect_of_next (.undefined (op := 0xCB) (by decide)) h
  | cpyAbs addr => exact effect_of_next (.compareReg _ _ _ (by decide)) h
  | cmpAbs addr => exact effect_of_next (.compareReg _ _ _ (by decide)) h
  | decAbs addr => exact effect_of_next (.modifyMem _ _ _ decCore_t (by decide)) h
  | bbs4 z rel => exact effect_of_next (.branchBit _ _ _ _ _ (by decide)) h
  | bne rel => exact effect_of_next (.branchIf _ _ _ _ (by decide)) h
  | cmpZpiy z => exact effect_of_next (.compareReg _ _ _ (by decide)) h
  | cmpZpi z => exact effect_of_next (.compareReg _ _ _ (by decide)) h
  | tin src dst len => exact effect_of_next (.blockTransfer _ _ _) h
  | csh => exact effect_of_next (.idle _ (by decide)) h
  | cmpZpx z => exact effect_of_next (.compareReg _ _ _ (by decide)) h
  | decZpx z => exact effect_of_next (.modifyMem _ _ _ decCore_t (by decide)) h
  | smb5 z => exact effect_of_next (.modifyBit _ _ _ (by decide)) h
  | cld => exact effect_of_next (.writeFlag _ _ _ (by decide)) h
  | cmpAbsy addr => exact effect_of_next (.compareReg _ _ _ (by decide)) h
  | phx => exact effect_of_next (.pushReg _ _ (by decide)) h
  | undefDB => exact effect_of_next (.undefined (op := 0xDB) (by decide)) h
  | undefDC => exact effect_of_next (.undefined (op := 0xDC) (by decide)) h
  | cmpAbsx addr => exact effect_of_next (.compareReg _ _ _ (by decide)) h
  | decAbsx addr => exact effect_of_next (.modifyMem _ _ _ decCore_t (by decide)) h
  | bbs5 z rel => exact effect_of_next (.branchBit _ _ _ _ _ (by decide)) h
  | cpxImm v => exact effect_of_next (.compareReg _ _ _ (by decide)) h
  | sbcZpix z => exact effect_of_next (.sbc _ _ (by decide)) h
  | undefE2 => exact effect_of_next (.undefined (op := 0xE2) (by decide)) h
  | tia src dst len => exact effect_of_next (.blockTransfer _ _ _) h
  | cpxZp z => exact effect_of_next (.compareReg _ _ _ (by decide)) h
  | sbcZp z => exact effect_of_next (.sbc _ _ (by decide)) h
  | incZp z => exact effect_of_next (.modifyMem _ _ _ incCore_t (by decide)) h
  | smb6 z => exact effect_of_next (.modifyBit _ _ _ (by decide)) h
  | inx => exact effect_of_next (.modifyReg _ _ _ incCore_t (by decide)) h
  | sbcImm v => exact effect_of_next (.sbc _ _ (by decide)) h
  | nop => exact effect_of_next (.idle _ (by decide)) h
  | undefEB => exact effect_of_next (.undefined (op := 0xEB) (by decide)) h
  | cpxAbs addr => exact effect_of_next (.compareReg _ _ _ (by decide)) h
  | sbcAbs addr => exact effect_of_next (.sbc _ _ (by decide)) h
  | incAbs addr => exact effect_of_next (.modifyMem _ _ _ incCore_t (by decide)) h
  | bbs6 z rel => exact effect_of_next (.branchBit _ _ _ _ _ (by decide)) h
  | beq rel => exact effect_of_next (.branchIf _ _ _ _ (by decide)) h
  | sbcZpiy z => exact effect_of_next (.sbc _ _ (by decide)) h
  | sbcZpi z => exact effect_of_next (.sbc _ _ (by decide)) h
  | tai src dst len => exact effect_of_next (.blockTransfer _ _ _) h
  | set => exact effect_of_next (.set) h
  | sbcZpx z => exact effect_of_next (.sbc _ _ (by decide)) h
  | incZpx z => exact effect_of_next (.modifyMem _ _ _ incCore_t (by decide)) h
  | smb7 z => exact effect_of_next (.modifyBit _ _ _ (by decide)) h
  | sed => exact effect_of_next (.writeFlag _ _ _ (by decide)) h
  | sbcAbsy addr => exact effect_of_next (.sbc _ _ (by decide)) h
  | plx => exact effect_of_next (.pullReg _ _ (by decide)) h
  | undefFB => exact effect_of_next (.undefined (op := 0xFB) (by decide)) h
  | undefFC => exact effect_of_next (.undefined (op := 0xFC) (by decide)) h
  | sbcAbsx addr => exact effect_of_next (.sbc _ _ (by decide)) h
  | incAbsx addr => exact effect_of_next (.modifyMem _ _ _ incCore_t (by decide)) h
  | bbs7 z rel => exact effect_of_next (.branchBit _ _ _ _ _ (by decide)) h

/-- Every instruction keeps the canonical form of memory. -/
theorem exec_wf (i : Instr) (s t : State) (h : exec i s = .next t) (hs : s.mem.wf) : t.mem.wf := by
  have e := exec_effect i s t h
  clear h
  have hw : ∀ u : State, u.mem = s.mem → u.mem.wf := fun u h => h ▸ hs
  cases e
  case undefined => exact hs
  case transferAlu | adc =>
    simp only [adc, transferAlu]
    split <;> first
      | exact Memory.wf_write _ _ _ (hw _ (by simp))
      | exact hw _ (by simp [accAlu])
  case branchIf => simp only [branchIf, takeBranch]; split <;> exact hw _ (by simp)
  case branchBit => simp only [branchBit, takeBranch]; split <;> exact hw _ (by simp)
  case modifyMem | modifyBits => unfold modifyMem; exact wf_writeLoc (hw _ (by simp)) _ _
  case modifyBit => simp only [modifyBit, zpWrite_mem]; exact Memory.wf_write _ _ _ (hw _ (by simp))
  case callRel => simp only [callRel, withPc_mem]; exact wf_push16 (hw _ (by simp)) _
  case callAbs => simp only [callAbs, withPc_mem]; exact wf_push16 (hw _ (by simp)) _
  case softwareInterrupt => unfold softwareInterrupt; exact wf_takeInterrupt (hw _ (by simp)) _ _ _ _
  case store | storeZero => unfold store; exact wf_writeLoc (hw _ (by simp)) _ _
  case pushReg => unfold pushReg; exact wf_push (hw _ (by simp)) _
  case pushP => unfold pushP; exact wf_push (hw _ (by simp)) _
  case blockTransfer => unfold blockTransfer; exact wf_copyBytes _ _ _ _ _ (hw _ (by simp))
  all_goals exact hw _ (by
    simp [sbc, accAlu, compareReg, modifyReg, bitTest, maskTest, branchAlways, jump, jumpIndirect, returnSub, pull16,
      fromBanks, portStore, load, transfer, swap, clearReg, pullReg, pullP, writeFlag, returnInterrupt,
      returnFromInterrupt, toBanks])

end Sys2Proof.Laws
end

