-- ==== Sys2Proof/Laws/Step.lean ====
section
/-! SUPPORT. The step: a fetch always decodes, every instruction answers a next state, and what the loop does after it to
memory. -/

namespace Sys2Proof.Laws

open Sys2Proof.Machine
open Sys2Proof.Config (CallbackResult Source IrqMask)

theorem fetchBytes_length (n : Nat) : ∀ (a : Word) (s : State), (fetchBytes n a s).1.length = n := by
  induction n with
  | zero => exact fun _ _ => rfl
  | succ n ih => intro a s; simp [fetchBytes, ih]

/-- A fetch reads exactly the bytes of one instruction (R115). -/
theorem decode_fetch (s : State) : ∃ i, decode (fetch s).1 = .ok (i, []) := by
  simp only [fetch, decode]
  exact parse_ok _ _ _ (by rw [fetchBytes_length]; rfl)

/-- Fetching bytes that lie in buffers gives them and changes nothing (R74, R93). -/
theorem fetchBytes_code (s : State) : ∀ (bs : List Byte) (a : Word), CodeAt s a bs →
    fetchBytes bs.length a s = (bs, s) := by
  intro bs
  induction bs with
  | nil => exact fun _ _ => rfl
  | cons b bs ih =>
    intro a h
    obtain ⟨⟨k, hk, hb⟩, h⟩ := h
    simp only [List.length_cons, fetchBytes, memRead_buffer hk, hb, ih _ h]

theorem fetch_code (s : State) (op : Byte) (bs : List Byte) (hl : instrLength op - 1 = bs.length)
    (h : CodeAt s s.pc (op :: bs)) : fetch s = (op :: bs, s) := by
  obtain ⟨⟨k, hk, hb⟩, h⟩ := h
  simp only [fetch, memRead_buffer hk, hb, hl, fetchBytes_code _ _ _ h]

/-- Every instruction's meaning answers a next state: no arm faults or refuses (R405). -/
theorem exec_next (i : Instr) (s : State) : ∃ t, exec i s = .next t := by
  cases i <;> exact ⟨_, rfl⟩

/-- The refusal `undecodable` guards a case that never happens. -/
theorem step_never_refuses (s : State) (r : Refusal) : step s ≠ .refused r := by
  obtain ⟨i, hi⟩ := decode_fetch s
  obtain ⟨t, ht⟩ := exec_next i (fetch s).2
  unfold step
  cases s.status <;> simp [hi, ht]

/-! ## The rest of the iteration (R410) -/

/-- Fetching changes only the record of calls. -/
theorem fetchBytes_state (n : Nat) : ∀ (a : Word) (s : State),
    (fetchBytes n a s).2 = withCallsOf (fetchBytes n a s).2 s := by
  induction n with
  | zero => exact fun _ _ => rfl
  | succ n ih =>
    intro a s
    simp only [fetchBytes]
    rw [ih, memRead_state a s]
    rfl

theorem fetch_state (s : State) : (fetch s).2 = withCallsOf (fetch s).2 s := by
  simp only [fetch]
  rw [fetchBytes_state, memRead_state s.pc s]
  rfl

/-- The masks are asked for without any effect but on the record of calls (R414). -/
theorem callMasks_state (s : State) : callMasks s = withCallsOf (callMasks s) s := by
  unfold callMasks
  split
  · simp only [List.foldl, recordMask]
    split <;> split <;> split <;> rfl
  · rfl

/-- A callback result writes `pending` or the status (R401). -/
theorem applyCallback_state (r : CallbackResult) (s : State) :
    applyCallback r s = { s with pending := (applyCallback r s).pending, status := (applyCallback r s).status } := by
  cases r <;> rfl

theorem enter_status (src : Source) (s : State) : (enter src s).status = s.status := by
  cases src <;> simp [enter, takeInterrupt, push16]

/-- The service step keeps the canonical form and the status. -/
theorem service_wf (s : State) (h : s.mem.wf) : (service s).mem.wf ∧ (service s).status = s.status := by
  have e := callMasks_state s
  have hm : (callMasks s).mem = s.mem := by rw [e]; rfl
  have hs : (callMasks s).status = s.status := by rw [e]; rfl
  simp only [service]
  split
  · exact ⟨hm ▸ h, hs⟩
  · refine ⟨?_, (enter_status _ _).trans hs⟩
    unfold enter
    rw [addCost_mem]
    exact wf_takeInterrupt (hm ▸ h) _ _ _ _

theorem timerAndService_wf (event : Bool) (s : State) (h : s.mem.wf) :
    (timerAndService event s).mem.wf ∧ (timerAndService event s).status = s.status := by
  have ht : (timerStep (hostPause s)).1.mem = s.mem ∧ (timerStep (hostPause s)).1.status = s.status := by
    simp only [timerStep]
    split <;> exact ⟨rfl, rfl⟩
  simp only [timerAndService]
  split
  · obtain ⟨hw, hs⟩ := service_wf _ (ht.1 ▸ h)
    exact ⟨hw, hs.trans ht.2⟩
  · exact ⟨ht.1 ▸ h, ht.2⟩

theorem scanlineStep_wf (s : State) (h : s.mem.wf) : (scanlineStep s).1.mem.wf ∧
    ((scanlineStep s).1.status = s.status ∨ (scanlineStep s).1.status = .quit) := by
  simp only [scanlineStep]
  split
  · refine ⟨?_, ?_⟩
    · rw [applyCallback_state]
      exact Memory.wf_writeAll _ _ h
    · cases (callbackValue { s with scanCycles := s.scanCycles - Config.scanlineBudget }).result
      · exact .inl rfl
      · exact .inl rfl
      · exact .inr rfl
  · exact ⟨h, .inl rfl⟩

/-- The rest of the iteration keeps the canonical form, and the status unless the host quits (R401, R410). -/
theorem afterInstr_wf (s : State) (h : s.mem.wf) : (afterInstr s).mem.wf ∧
    ((afterInstr s).status = s.status ∨ (afterInstr s).status = .quit) := by
  obtain ⟨hw, hst⟩ := scanlineStep_wf s h
  simp only [afterInstr]
  split
  · next hr =>
    split
    · next hc =>
      obtain ⟨hw', hs⟩ := timerAndService_wf (scanlineStep s).2 _ hw
      exact ⟨hw', .inl (by rw [hs, hc, hr])⟩
    · next hc => exact ⟨hw, .inr hc⟩
    · next _ _ hc => rw [hr, hc] at hst; exact absurd hst (by simp)
  · exact ⟨h, .inl rfl⟩
  · exact ⟨h, .inl rfl⟩

/-- Which source is chosen: the first deliverable one in the fixed order (R415, D12). -/
theorem choose_eq (q : Pending) (m : IrqMask) (p : Byte) : choose (dropUndeliverable p m q) =
    [Source.nmi, .timer, .irq, .irq2].find? (fun src => q.has src && deliverable p m src) := by
  obtain ⟨a, b, c, d⟩ := q
  cases h₁ : deliverable p m .timer <;> cases h₂ : deliverable p m .irq <;> cases h₃ : deliverable p m .irq2 <;>
    cases a <;> cases b <;> cases c <;> cases d <;>
    simp [choose, dropUndeliverable, List.find?, Pending.has, h₁, h₂, h₃, show deliverable p m .nmi = true from rfl]

end Sys2Proof.Laws
end

