-- ==== Sys2Proof/Tests/Slice0.lean ====
section
/-! SUPPORT. The model's own tests. Expected values come from spec/: the opcode map of 30_encoding.md R113, and the vectors of
95_test_vectors.md by their names there (A1, C1, S1, T1, J1, K1, B1, F1, I1, L1-3). The witnesses at the end meet the
hypotheses of the statements. -/

namespace Sys2Proof.Tests

open Sys2Proof.Config Sys2Proof.Machine Sys2Proof.Claims

/-! ## WellFormed: an ill-formed term for each check, and the bounds that pass (R112) -/

/-- One above the range, on every constructor with a displacement. -/
def relTooHigh : List Instr :=
  [.bbr0 0x34 128, .bpl 128, .bbr1 0x34 128, .bbr2 0x34 128, .bmi 128,
   .bbr3 0x34 128, .bsr 128, .bbr4 0x34 128, .bvc 128, .bbr5 0x34 128,
   .bbr6 0x34 128, .bvs 128, .bbr7 0x34 128, .bra 128, .bbs0 0x34 128,
   .bcc 128, .bbs1 0x34 128, .bbs2 0x34 128, .bcs 128, .bbs3 0x34 128,
   .bbs4 0x34 128, .bne 128, .bbs5 0x34 128, .bbs6 0x34 128, .beq 128,
   .bbs7 0x34 128]

theorem test_relTooHigh : relTooHigh.all (fun i => !i.wellFormed) = true := by decide

/-- One below the range. -/
def relTooLow : List Instr :=
  [.bbr0 0x34 (-129), .bpl (-129), .bbr1 0x34 (-129), .bbr2 0x34 (-129), .bmi (-129),
   .bbr3 0x34 (-129), .bsr (-129), .bbr4 0x34 (-129), .bvc (-129), .bbr5 0x34 (-129),
   .bbr6 0x34 (-129), .bvs (-129), .bbr7 0x34 (-129), .bra (-129), .bbs0 0x34 (-129),
   .bcc (-129), .bbs1 0x34 (-129), .bbs2 0x34 (-129), .bcs (-129), .bbs3 0x34 (-129),
   .bbs4 0x34 (-129), .bne (-129), .bbs5 0x34 (-129), .bbs6 0x34 (-129), .beq (-129),
   .bbs7 0x34 (-129)]

theorem test_relTooLow : relTooLow.all (fun i => !i.wellFormed) = true := by decide

/-- The highest displacement. -/
def relHighest : List Instr :=
  [.bbr0 0x34 127, .bpl 127, .bbr1 0x34 127, .bbr2 0x34 127, .bmi 127,
   .bbr3 0x34 127, .bsr 127, .bbr4 0x34 127, .bvc 127, .bbr5 0x34 127,
   .bbr6 0x34 127, .bvs 127, .bbr7 0x34 127, .bra 127, .bbs0 0x34 127,
   .bcc 127, .bbs1 0x34 127, .bbs2 0x34 127, .bcs 127, .bbs3 0x34 127,
   .bbs4 0x34 127, .bne 127, .bbs5 0x34 127, .bbs6 0x34 127, .beq 127,
   .bbs7 0x34 127]

theorem test_relHighest : relHighest.all (fun i => i.wellFormed) = true := by decide

/-- The lowest displacement. -/
def relLowest : List Instr :=
  [.bbr0 0x34 (-128), .bpl (-128), .bbr1 0x34 (-128), .bbr2 0x34 (-128), .bmi (-128),
   .bbr3 0x34 (-128), .bsr (-128), .bbr4 0x34 (-128), .bvc (-128), .bbr5 0x34 (-128),
   .bbr6 0x34 (-128), .bvs (-128), .bbr7 0x34 (-128), .bra (-128), .bbs0 0x34 (-128),
   .bcc (-128), .bbs1 0x34 (-128), .bbs2 0x34 (-128), .bcs (-128), .bbs3 0x34 (-128),
   .bbs4 0x34 (-128), .bne (-128), .bbs5 0x34 (-128), .bbs6 0x34 (-128), .beq (-128),
   .bbs7 0x34 (-128)]

theorem test_relLowest : relLowest.all (fun i => i.wellFormed) = true := by decide

/-! ## Decode: one word a constructor, row by row of the table of R113

Operands: `#i` = $21, `z` = $34, `a` = $5678 (low byte first), `r` = $FD (-3), `z,r` = $34 $05, blocks $4001 $5002 $6003. -/

/-- The bytes decode to the instruction, none left over. -/
def reads (bytes : List Byte) (i : Instr) : Bool := (decode bytes).toOption == some (i, [])

theorem test_decode_row0 :
    (reads [0x00] (.brk) && reads [0x01, 0x34] (.oraZpix 0x34) &&
     reads [0x02] (.sxy) && reads [0x03, 0x21] (.st0 0x21) &&
     reads [0x04, 0x34] (.tsbZp 0x34) && reads [0x05, 0x34] (.oraZp 0x34) &&
     reads [0x06, 0x34] (.aslZp 0x34) && reads [0x07, 0x34] (.rmb0 0x34) &&
     reads [0x08] (.php) && reads [0x09, 0x21] (.oraImm 0x21) &&
     reads [0x0A] (.aslAcc) && reads [0x0B] (.undef0B) &&
     reads [0x0C, 0x78, 0x56] (.tsbAbs 0x5678) && reads [0x0D, 0x78, 0x56] (.oraAbs 0x5678) &&
     reads [0x0E, 0x78, 0x56] (.aslAbs 0x5678) && reads [0x0F, 0x34, 0x05] (.bbr0 0x34 5)) = true := by decide

theorem test_decode_row1 :
    (reads [0x10, 0xFD] (.bpl (-3)) && reads [0x11, 0x34] (.oraZpiy 0x34) &&
     reads [0x12, 0x34] (.oraZpi 0x34) && reads [0x13, 0x21] (.st1 0x21) &&
     reads [0x14, 0x34] (.trbZp 0x34) && reads [0x15, 0x34] (.oraZpx 0x34) &&
     reads [0x16, 0x34] (.aslZpx 0x34) && reads [0x17, 0x34] (.rmb1 0x34) &&
     reads [0x18] (.clc) && reads [0x19, 0x78, 0x56] (.oraAbsy 0x5678) &&
     reads [0x1A] (.incAcc) && reads [0x1B] (.undef1B) &&
     reads [0x1C, 0x78, 0x56] (.trbAbs 0x5678) && reads [0x1D, 0x78, 0x56] (.oraAbsx 0x5678) &&
     reads [0x1E, 0x78, 0x56] (.aslAbsx 0x5678) && reads [0x1F, 0x34, 0x05] (.bbr1 0x34 5)) = true := by decide

theorem test_decode_row2 :
    (reads [0x20, 0x78, 0x56] (.jsr 0x5678) && reads [0x21, 0x34] (.andZpix 0x34) &&
     reads [0x22] (.sax) && reads [0x23, 0x21] (.st2 0x21) &&
     reads [0x24, 0x34] (.bitZp 0x34) && reads [0x25, 0x34] (.andZp 0x34) &&
     reads [0x26, 0x34] (.rolZp 0x34) && reads [0x27, 0x34] (.rmb2 0x34) &&
     reads [0x28] (.plp) && reads [0x29, 0x21] (.andImm 0x21) &&
     reads [0x2A] (.rolAcc) && reads [0x2B] (.undef2B) &&
     reads [0x2C, 0x78, 0x56] (.bitAbs 0x5678) && reads [0x2D, 0x78, 0x56] (.andAbs 0x5678) &&
     reads [0x2E, 0x78, 0x56] (.rolAbs 0x5678) && reads [0x2F, 0x34, 0x05] (.bbr2 0x34 5)) = true := by decide

theorem test_decode_row3 :
    (reads [0x30, 0xFD] (.bmi (-3)) && reads [0x31, 0x34] (.andZpiy 0x34) &&
     reads [0x32, 0x34] (.andZpi 0x34) && reads [0x33] (.undef33) &&
     reads [0x34, 0x34] (.bitZpx 0x34) && reads [0x35, 0x34] (.andZpx 0x34) &&
     reads [0x36, 0x34] (.rolZpx 0x34) && reads [0x37, 0x34] (.rmb3 0x34) &&
     reads [0x38] (.sec) && reads [0x39, 0x78, 0x56] (.andAbsy 0x5678) &&
     reads [0x3A] (.decAcc) && reads [0x3B] (.undef3B) &&
     reads [0x3C, 0x78, 0x56] (.bitAbsx 0x5678) && reads [0x3D, 0x78, 0x56] (.andAbsx 0x5678) &&
     reads [0x3E, 0x78, 0x56] (.rolAbsx 0x5678) && reads [0x3F, 0x34, 0x05] (.bbr3 0x34 5)) = true := by decide

theorem test_decode_row4 :
    (reads [0x40] (.rti) && reads [0x41, 0x34] (.eorZpix 0x34) &&
     reads [0x42] (.say) && reads [0x43, 0x21] (.tma 0x21) &&
     reads [0x44, 0xFD] (.bsr (-3)) && reads [0x45, 0x34] (.eorZp 0x34) &&
     reads [0x46, 0x34] (.lsrZp 0x34) && reads [0x47, 0x34] (.rmb4 0x34) &&
     reads [0x48] (.pha) && reads [0x49, 0x21] (.eorImm 0x21) &&
     reads [0x4A] (.lsrAcc) && reads [0x4B] (.undef4B) &&
     reads [0x4C, 0x78, 0x56] (.jmpAbs 0x5678) && reads [0x4D, 0x78, 0x56] (.eorAbs 0x5678) &&
     reads [0x4E, 0x78, 0x56] (.lsrAbs 0x5678) && reads [0x4F, 0x34, 0x05] (.bbr4 0x34 5)) = true := by decide

theorem test_decode_row5 :
    (reads [0x50, 0xFD] (.bvc (-3)) && reads [0x51, 0x34] (.eorZpiy 0x34) &&
     reads [0x52, 0x34] (.eorZpi 0x34) && reads [0x53, 0x21] (.tam 0x21) &&
     reads [0x54] (.csl) && reads [0x55, 0x34] (.eorZpx 0x34) &&
     reads [0x56, 0x34] (.lsrZpx 0x34) && reads [0x57, 0x34] (.rmb5 0x34) &&
     reads [0x58] (.cli) && reads [0x59, 0x78, 0x56] (.eorAbsy 0x5678) &&
     reads [0x5A] (.phy) && reads [0x5B] (.undef5B) &&
     reads [0x5C] (.undef5C) && reads [0x5D, 0x78, 0x56] (.eorAbsx 0x5678) &&
     reads [0x5E, 0x78, 0x56] (.lsrAbsx 0x5678) && reads [0x5F, 0x34, 0x05] (.bbr5 0x34 5)) = true := by decide

theorem test_decode_row6 :
    (reads [0x60] (.rts) && reads [0x61, 0x34] (.adcZpix 0x34) &&
     reads [0x62] (.cla) && reads [0x63] (.undef63) &&
     reads [0x64, 0x34] (.stzZp 0x34) && reads [0x65, 0x34] (.adcZp 0x34) &&
     reads [0x66, 0x34] (.rorZp 0x34) && reads [0x67, 0x34] (.rmb6 0x34) &&
     reads [0x68] (.pla) && reads [0x69, 0x21] (.adcImm 0x21) &&
     reads [0x6A] (.rorAcc) && reads [0x6B] (.undef6B) &&
     reads [0x6C, 0x78, 0x56] (.jmpInd 0x5678) && reads [0x6D, 0x78, 0x56] (.adcAbs 0x5678) &&
     reads [0x6E, 0x78, 0x56] (.rorAbs 0x5678) && reads [0x6F, 0x34, 0x05] (.bbr6 0x34 5)) = true := by decide

theorem test_decode_row7 :
    (reads [0x70, 0xFD] (.bvs (-3)) && reads [0x71, 0x34] (.adcZpiy 0x34) &&
     reads [0x72, 0x34] (.adcZpi 0x34) && reads [0x73, 0x01, 0x40, 0x02, 0x50, 0x03, 0x60] (.tii 0x4001 0x5002 0x6003) &&
     reads [0x74, 0x34] (.stzZpx 0x34) && reads [0x75, 0x34] (.adcZpx 0x34) &&
     reads [0x76, 0x34] (.rorZpx 0x34) && reads [0x77, 0x34] (.rmb7 0x34) &&
     reads [0x78] (.sei) && reads [0x79, 0x78, 0x56] (.adcAbsy 0x5678) &&
     reads [0x7A] (.ply) && reads [0x7B] (.undef7B) &&
     reads [0x7C, 0x78, 0x56] (.jmpIndx 0x5678) && reads [0x7D, 0x78, 0x56] (.adcAbsx 0x5678) &&
     reads [0x7E, 0x78, 0x56] (.rorAbsx 0x5678) && reads [0x7F, 0x34, 0x05] (.bbr7 0x34 5)) = true := by decide

theorem test_decode_row8 :
    (reads [0x80, 0xFD] (.bra (-3)) && reads [0x81, 0x34] (.staZpix 0x34) &&
     reads [0x82] (.clx) && reads [0x83, 0x21, 0x34] (.tstZp 0x21 0x34) &&
     reads [0x84, 0x34] (.styZp 0x34) && reads [0x85, 0x34] (.staZp 0x34) &&
     reads [0x86, 0x34] (.stxZp 0x34) && reads [0x87, 0x34] (.smb0 0x34) &&
     reads [0x88] (.dey) && reads [0x89, 0x21] (.bitImm 0x21) &&
     reads [0x8A] (.txa) && reads [0x8B] (.undef8B) &&
     reads [0x8C, 0x78, 0x56] (.styAbs 0x5678) && reads [0x8D, 0x78, 0x56] (.staAbs 0x5678) &&
     reads [0x8E, 0x78, 0x56] (.stxAbs 0x5678) && reads [0x8F, 0x34, 0x05] (.bbs0 0x34 5)) = true := by decide

theorem test_decode_row9 :
    (reads [0x90, 0xFD] (.bcc (-3)) && reads [0x91, 0x34] (.staZpiy 0x34) &&
     reads [0x92, 0x34] (.staZpi 0x34) && reads [0x93, 0x21, 0x78, 0x56] (.tstAbs 0x21 0x5678) &&
     reads [0x94, 0x34] (.styZpx 0x34) && reads [0x95, 0x34] (.staZpx 0x34) &&
     reads [0x96, 0x34] (.stxZpy 0x34) && reads [0x97, 0x34] (.smb1 0x34) &&
     reads [0x98] (.tya) && reads [0x99, 0x78, 0x56] (.staAbsy 0x5678) &&
     reads [0x9A] (.txs) && reads [0x9B] (.undef9B) &&
     reads [0x9C, 0x78, 0x56] (.stzAbs 0x5678) && reads [0x9D, 0x78, 0x56] (.staAbsx 0x5678) &&
     reads [0x9E, 0x78, 0x56] (.stzAbsx 0x5678) && reads [0x9F, 0x34, 0x05] (.bbs1 0x34 5)) = true := by decide

theorem test_decode_rowA :
    (reads [0xA0, 0x21] (.ldyImm 0x21) && reads [0xA1, 0x34] (.ldaZpix 0x34) &&
     reads [0xA2, 0x21] (.ldxImm 0x21) && reads [0xA3, 0x21, 0x34] (.tstZpx 0x21 0x34) &&
     reads [0xA4, 0x34] (.ldyZp 0x34) && reads [0xA5, 0x34] (.ldaZp 0x34) &&
     reads [0xA6, 0x34] (.ldxZp 0x34) && reads [0xA7, 0x34] (.smb2 0x34) &&
     reads [0xA8] (.tay) && reads [0xA9, 0x21] (.ldaImm 0x21) &&
     reads [0xAA] (.tax) && reads [0xAB] (.undefAB) &&
     reads [0xAC, 0x78, 0x56] (.ldyAbs 0x5678) && reads [0xAD, 0x78, 0x56] (.ldaAbs 0x5678) &&
     reads [0xAE, 0x78, 0x56] (.ldxAbs 0x5678) && reads [0xAF, 0x34, 0x05] (.bbs2 0x34 5)) = true := by decide

theorem test_decode_rowB :
    (reads [0xB0, 0xFD] (.bcs (-3)) && reads [0xB1, 0x34] (.ldaZpiy 0x34) &&
     reads [0xB2, 0x34] (.ldaZpi 0x34) && reads [0xB3, 0x21, 0x78, 0x56] (.tstAbsx 0x21 0x5678) &&
     reads [0xB4, 0x34] (.ldyZpx 0x34) && reads [0xB5, 0x34] (.ldaZpx 0x34) &&
     reads [0xB6, 0x34] (.ldxZpy 0x34) && reads [0xB7, 0x34] (.smb3 0x34) &&
     reads [0xB8] (.clv) && reads [0xB9, 0x78, 0x56] (.ldaAbsy 0x5678) &&
     reads [0xBA] (.tsx) && reads [0xBB] (.undefBB) &&
     reads [0xBC, 0x78, 0x56] (.ldyAbsx 0x5678) && reads [0xBD, 0x78, 0x56] (.ldaAbsx 0x5678) &&
     reads [0xBE, 0x78, 0x56] (.ldxAbsy 0x5678) && reads [0xBF, 0x34, 0x05] (.bbs3 0x34 5)) = true := by decide

theorem test_decode_rowC :
    (reads [0xC0, 0x21] (.cpyImm 0x21) && reads [0xC1, 0x34] (.cmpZpix 0x34) &&
     reads [0xC2] (.cly) && reads [0xC3, 0x01, 0x40, 0x02, 0x50, 0x03, 0x60] (.tdd 0x4001 0x5002 0x6003) &&
     reads [0xC4, 0x34] (.cpyZp 0x34) && reads [0xC5, 0x34] (.cmpZp 0x34) &&
     reads [0xC6, 0x34] (.decZp 0x34) && reads [0xC7, 0x34] (.smb4 0x34) &&
     reads [0xC8] (.iny) && reads [0xC9, 0x21] (.cmpImm 0x21) &&
     reads [0xCA] (.dex) && reads [0xCB] (.undefCB) &&
     reads [0xCC, 0x78, 0x56] (.cpyAbs 0x5678) && reads [0xCD, 0x78, 0x56] (.cmpAbs 0x5678) &&
     reads [0xCE, 0x78, 0x56] (.decAbs 0x5678) && reads [0xCF, 0x34, 0x05] (.bbs4 0x34 5)) = true := by decide

theorem test_decode_rowD :
    (reads [0xD0, 0xFD] (.bne (-3)) && reads [0xD1, 0x34] (.cmpZpiy 0x34) &&
     reads [0xD2, 0x34] (.cmpZpi 0x34) && reads [0xD3, 0x01, 0x40, 0x02, 0x50, 0x03, 0x60] (.tin 0x4001 0x5002 0x6003) &&
     reads [0xD4] (.csh) && reads [0xD5, 0x34] (.cmpZpx 0x34) &&
     reads [0xD6, 0x34] (.decZpx 0x34) && reads [0xD7, 0x34] (.smb5 0x34) &&
     reads [0xD8] (.cld) && reads [0xD9, 0x78, 0x56] (.cmpAbsy 0x5678) &&
     reads [0xDA] (.phx) && reads [0xDB] (.undefDB) &&
     reads [0xDC] (.undefDC) && reads [0xDD, 0x78, 0x56] (.cmpAbsx 0x5678) &&
     reads [0xDE, 0x78, 0x56] (.decAbsx 0x5678) && reads [0xDF, 0x34, 0x05] (.bbs5 0x34 5)) = true := by decide

theorem test_decode_rowE :
    (reads [0xE0, 0x21] (.cpxImm 0x21) && reads [0xE1, 0x34] (.sbcZpix 0x34) &&
     reads [0xE2] (.undefE2) && reads [0xE3, 0x01, 0x40, 0x02, 0x50, 0x03, 0x60] (.tia 0x4001 0x5002 0x6003) &&
     reads [0xE4, 0x34] (.cpxZp 0x34) && reads [0xE5, 0x34] (.sbcZp 0x34) &&
     reads [0xE6, 0x34] (.incZp 0x34) && reads [0xE7, 0x34] (.smb6 0x34) &&
     reads [0xE8] (.inx) && reads [0xE9, 0x21] (.sbcImm 0x21) &&
     reads [0xEA] (.nop) && reads [0xEB] (.undefEB) &&
     reads [0xEC, 0x78, 0x56] (.cpxAbs 0x5678) && reads [0xED, 0x78, 0x56] (.sbcAbs 0x5678) &&
     reads [0xEE, 0x78, 0x56] (.incAbs 0x5678) && reads [0xEF, 0x34, 0x05] (.bbs6 0x34 5)) = true := by decide

theorem test_decode_rowF :
    (reads [0xF0, 0xFD] (.beq (-3)) && reads [0xF1, 0x34] (.sbcZpiy 0x34) &&
     reads [0xF2, 0x34] (.sbcZpi 0x34) && reads [0xF3, 0x01, 0x40, 0x02, 0x50, 0x03, 0x60] (.tai 0x4001 0x5002 0x6003) &&
     reads [0xF4] (.set) && reads [0xF5, 0x34] (.sbcZpx 0x34) &&
     reads [0xF6, 0x34] (.incZpx 0x34) && reads [0xF7, 0x34] (.smb7 0x34) &&
     reads [0xF8] (.sed) && reads [0xF9, 0x78, 0x56] (.sbcAbsy 0x5678) &&
     reads [0xFA] (.plx) && reads [0xFB] (.undefFB) &&
     reads [0xFC] (.undefFC) && reads [0xFD, 0x78, 0x56] (.sbcAbsx 0x5678) &&
     reads [0xFE, 0x78, 0x56] (.incAbsx 0x5678) && reads [0xFF, 0x34, 0x05] (.bbs7 0x34 5)) = true := by decide

/-- Too few bytes are refused by name, the opcode byte with them (R114). -/
theorem test_decode_truncated :
    (match decode [0x73, 0x00, 0x40] with
     | .error (.truncated op) => op
     | _ => 0x00) = 0x73 := by decide

/-- The words of the host's table: bit 0 is the least significant bit of the first byte. -/
theorem test_tableWord_rel : decodeTableWord 16 0xFE10 = some (.bpl (-2)) := by decide

theorem test_tableWord_block : decodeTableWord 56 0x00030010400073 = some (.tii 0x4000 0x0010 3) := by decide

theorem test_tableWord_operands_zero : decodeTableWord 8 0x6D = some (.adcAbs 0x0000) := by decide

/-! ## One step on a small state (95_test_vectors.md, conventions for L2) -/

/-- The platform of the vectors: slot 0 is the I/O sentinel, slot 7 the ROM window, every other slot a RAM window. -/
def table : Vector PageEntry 8 := #v[.io, .buf 1, .buf 2, .buf 3, .buf 4, .buf 5, .buf 6, .buf 0]

def base : State :=
  { State.reset with
    pc := 0xE000, p := 0x00, mpr := #v[0xFF, 0x01, 0x02, 0x03, 0x04, 0x05, 0x06, 0x00], pageR := table, pageW := table,
    platform :=
      { banks := [⟨0, 0xF8, .buf baseRam, .buf baseRam⟩, ⟨1, 0xF8, .buf baseRam, .buf baseRam⟩],
        io := ⟨[], some 0x5A⟩, periods := ⟨[], some 100000⟩, pauses := ⟨[], some 0⟩, callbacks := ⟨[], some ⟨.none, []⟩⟩,
        masks := ⟨[], some ⟨false, false, false⟩⟩ } }

/-- One step with these bytes at PC. -/
def after (bytes : List Byte) (s : State) : Option State :=
  match step (placeBytes bytes s.pc s) with
  | .next t => some t
  | .fault _ => none
  | .refused _ => none

def zp (z v : Byte) (s : State) : State := zpWrite z v s

def stk (a v : Byte) (s : State) : State := writeMem (stackCell a) v s

def put (addr : Word) (v : Byte) (s : State) : State := placeByte addr v s

/-- The byte a paged read of `addr` finds. -/
def at_ (addr : Word) (s : State) : Byte := (memRead addr s).1

def stkAt (a : Byte) (s : State) : Byte := s.mem.read (stackCell a)

def onCallback (r : CallbackResult) (s : State) : State :=
  { s with platform := { s.platform with callbacks := ⟨[], some ⟨r, []⟩⟩ } }

def onPause (n : Nat) (s : State) : State := { s with platform := { s.platform with pauses := ⟨[n], some 0⟩ } }

def onPeriod (n : Nat) (s : State) : State := { s with platform := { s.platform with periods := ⟨[], some n⟩ } }

/-! ### Add, subtract, logic, compare -/

theorem test_A1 : (after [0x69, 0x01] { base with a := 0x7F }).map
    (fun t => (t.a, t.p, t.pc, t.scanCycles)) = some (0x80, 0xC0, 0xE002, 2) := by decide

theorem test_A6 : (after [0x69, 0x45] { base with a := 0x45, p := 0x09 }).map
    (fun t => (t.a, t.p, t.timerDelta)) = some (0x91, 0x88, 3) := by decide

theorem test_A8 : (after [0x65, 0x10] (zp 0x10 0x03 (zp 0x20 0x05 { base with a := 0x11, x := 0x20, p := 0x20 }))).map
    (fun t => (zpRead 0x20 t, t.a, t.p, t.scanCycles)) = some (0x08, 0x11, 0x00, 7) := by decide

theorem test_A11 : (after [0xE9, 0x01] { base with a := 0x80, p := 0x01 }).map
    (fun t => (t.a, t.p, t.scanCycles)) = some (0x7F, 0x41, 2) := by decide

theorem test_A13 : (after [0xE9, 0x01] { base with a := 0x00, p := 0x09 }).map
    (fun t => (t.a, t.p, t.scanCycles)) = some (0x99, 0x88, 3) := by decide

theorem test_A16 : (after [0x29, 0x3C] { base with a := 0xF0 }).map
    (fun t => (t.a, t.p, t.scanCycles)) = some (0x30, 0x00, 2) := by decide

theorem test_A17 : (after [0x29, 0x3C] (zp 0x10 0x0F { base with a := 0xF0, x := 0x10, p := 0x20 })).map
    (fun t => (zpRead 0x10 t, t.a, t.p, t.scanCycles)) = some (0x0C, 0xF0, 0x00, 5) := by decide

theorem test_A18 : (after [0x09, 0x00] { base with a := 0x00 }).map
    (fun t => (t.a, t.p, t.scanCycles)) = some (0x00, 0x02, 2) := by decide

theorem test_A19 : (after [0x49, 0xFF] { base with a := 0xFF, p := 0x80 }).map
    (fun t => (t.a, t.p, t.scanCycles)) = some (0x00, 0x02, 2) := by decide

theorem test_A20 : (after [0x51, 0x40] (zp 0x22 0xAA (zp 0x41 0x40 (put 0x4001 0xFF
    { base with a := 0x00, x := 0x22, y := 0x01, p := 0x20 })))).map
    (fun t => (zpRead 0x22 t, t.a, t.p, t.scanCycles)) = some (0x55, 0x00, 0x00, 10) := by decide

theorem test_A21 : (after [0x01, 0xFE] (zp 0xFF 0x10 (zp 0x00 0x40 (put 0x4010 0x80
    { base with a := 0x01, x := 0x01 })))).map
    (fun t => (t.a, t.p, t.scanCycles)) = some (0x81, 0x80, 7) := by decide

theorem test_C1 : (after [0xC9, 0x41] { base with a := 0x40 }).map
    (fun t => (t.a, t.p, t.scanCycles)) = some (0x40, 0x80, 2) := by decide

theorem test_C3 : (after [0xC9, 0x00] { base with a := 0x80 }).map (fun t => t.p) = some 0x81 := by decide

theorem test_C4 : (after [0xE0, 0x80] { base with x := 0x00 }).map
    (fun t => (t.p, t.scanCycles)) = some (0x80, 2) := by decide

theorem test_C5 : (after [0xC4, 0x10] (zp 0x10 0xFE { base with y := 0xFF })).map
    (fun t => (t.p, t.scanCycles)) = some (0x01, 4) := by decide

/-! ### Shifts, increments, bits -/

theorem test_S1 : (after [0x0A] { base with a := 0x80 }).map
    (fun t => (t.a, t.p, t.pc, t.scanCycles)) = some (0x00, 0x03, 0xE001, 2) := by decide

theorem test_S2 : (after [0x46, 0x10] (zp 0x10 0x01 { base with p := 0x80 })).map
    (fun t => (zpRead 0x10 t, t.p, t.scanCycles)) = some (0x00, 0x03, 6) := by decide

theorem test_S3 : (after [0x2A] { base with a := 0x80 }).map
    (fun t => (t.a, t.p, t.scanCycles)) = some (0x00, 0x03, 2) := by decide

theorem test_S4 : (after [0x6E, 0x00, 0x40] (put 0x4000 0x01 { base with p := 0x01 })).map
    (fun t => (at_ 0x4000 t, t.p, t.pc, t.scanCycles)) = some (0x80, 0x81, 0xE003, 7) := by decide

theorem test_S5 : (after [0x1A] { base with a := 0xFF, p := 0x01 }).map
    (fun t => (t.a, t.p, t.scanCycles)) = some (0x00, 0x03, 2) := by decide

theorem test_S6 : (after [0xD6, 0xFF] { base with x := 0x02 }).map
    (fun t => (zpRead 0x01 t, t.p, t.scanCycles)) = some (0xFF, 0x80, 6) := by decide

theorem test_S7 : (after [0xE8] { base with x := 0x7F }).map
    (fun t => (t.x, t.p, t.scanCycles)) = some (0x80, 0x80, 2) := by decide

theorem test_S8 : (after [0x88] { base with y := 0x00 }).map
    (fun t => (t.y, t.p, t.scanCycles)) = some (0xFF, 0x80, 2) := by decide

theorem test_T1 : (after [0x89, 0xC0] { base with a := 0x3F }).map
    (fun t => (t.p, t.scanCycles)) = some (0xC2, 2) := by decide

theorem test_T2 : (after [0x24, 0x10] (zp 0x10 0x01 { base with a := 0x01, p := 0xC0 })).map
    (fun t => (t.p, t.scanCycles)) = some (0x00, 4) := by decide

theorem test_T3 : (after [0x83, 0x01, 0x20] (zp 0x20 0x41 base)).map
    (fun t => (t.p, t.pc, t.scanCycles)) = some (0x40, 0xE003, 7) := by decide

theorem test_T4 : (after [0xB3, 0xFF, 0x00, 0x40] (put 0x4005 0x80 { base with x := 0x05, p := 0x02 })).map
    (fun t => (t.p, t.pc, t.scanCycles)) = some (0x80, 0xE004, 8) := by decide

theorem test_T5 : (after [0x04, 0x20] (zp 0x20 0xF0 { base with a := 0x0F })).map
    (fun t => (zpRead 0x20 t, t.p, t.scanCycles)) = some (0xFF, 0xC2, 6) := by decide

theorem test_T6 : (after [0x1C, 0x00, 0x40] (put 0x4000 0x3C { base with a := 0x0F })).map
    (fun t => (at_ 0x4000 t, t.p, t.scanCycles)) = some (0x30, 0x00, 7) := by decide

theorem test_T7 : (after [0x37, 0x30] (zp 0x30 0xFF { base with p := 0x20 })).map
    (fun t => (zpRead 0x30 t, t.p, t.scanCycles)) = some (0xF7, 0x00, 7) := by decide

theorem test_T8 : (after [0x87, 0x30] base).map
    (fun t => (zpRead 0x30 t, t.p, t.scanCycles)) = some (0x01, 0x00, 7) := by decide

/-! ### Control -/

theorem test_J1 : (after [0xD0, 0xFE] base).map (fun t => (t.pc, t.scanCycles)) = some (0xE000, 4) := by decide

theorem test_J2 : (after [0xF0, 0x10] { base with p := 0x20 }).map
    (fun t => (t.pc, t.p, t.scanCycles)) = some (0xE002, 0x00, 2) := by decide

theorem test_J3 : (after [0x30, 0x7F] { base with p := 0x80 }).map
    (fun t => (t.pc, t.scanCycles)) = some (0xE081, 4) := by decide

theorem test_J4 : (after [0x80, 0x80] base).map (fun t => (t.pc, t.scanCycles)) = some (0xDF82, 4) := by decide

theorem test_J5 : (after [0x0F, 0x20, 0x10] (zp 0x20 0xFE base)).map
    (fun t => (t.pc, t.scanCycles)) = some (0xE013, 8) := by decide

theorem test_J6 : (after [0xFF, 0x20, 0x10] (zp 0x20 0x7F { base with p := 0x20 })).map
    (fun t => (t.pc, t.p, t.scanCycles)) = some (0xE003, 0x00, 6) := by decide

theorem test_J7 : (after [0xFF, 0x20, 0x00] (zp 0x20 0x80 base)).map
    (fun t => (t.pc, t.scanCycles)) = some (0xE003, 8) := by decide

theorem test_J8 : (after [0x44, 0x10] base).map
    (fun t => (stkAt 0xFF t, stkAt 0xFE t, t.sp, t.pc, t.scanCycles)) = some (0xE0, 0x01, 0xFD, 0xE012, 8) := by decide

theorem test_J9 : (after [0x20, 0x00, 0xD0] { base with sp := 0x00, p := 0x20 }).map
    (fun t => (stkAt 0x00 t, stkAt 0xFF t, t.sp, t.p, t.pc, t.scanCycles)) =
      some (0xE0, 0x02, 0xFE, 0x00, 0xD000, 7) := by decide

theorem test_J10 : (after [0x6C, 0xFF, 0x40] (put 0x40FF 0x34 (put 0x4100 0x12 base))).map
    (fun t => (t.pc, t.scanCycles)) = some (0x1234, 7) := by decide

theorem test_J11 : (after [0x7C, 0x00, 0x40] (put 0x4000 0x11 (put 0x4001 0x11 (put 0x4002 0x22 (put 0x4003 0x22
    { base with x := 0x02 }))))).map (fun t => (t.pc, t.scanCycles)) = some (0x2222, 7) := by decide

theorem test_J12 : (after [0x60] (stk 0xFE 0x02 (stk 0xFF 0xC0 { base with sp := 0xFD }))).map
    (fun t => (t.sp, t.pc, t.scanCycles)) = some (0xFF, 0xC003, 7) := by decide

theorem test_J13 : (after [0x00] (put 0xFFF7 0xE1 { base with p := 0x21 })).map
    (fun t => ([stkAt 0xFF t, stkAt 0xFE t, stkAt 0xFD t, t.sp, t.p], t.pc, t.scanCycles)) =
      some ([0xE0, 0x02, 0x11, 0xFC, 0x05], 0xE100, 8) := by decide

theorem test_J14 : (after [0x40] (stk 0xFD 0xFF (stk 0xFE 0x34 (stk 0xFF 0x12 { base with sp := 0xFC, p := 0x04 })))).map
    (fun t => (t.p, t.sp, t.pc, t.scanCycles)) = some (0xEF, 0xFF, 0x1234, 7) := by decide

/-! ### Loads, stores, transfers, stack -/

theorem test_K1 : (after [0x08] { base with p := 0x35 }).map
    (fun t => (stkAt 0xFF t, t.sp, t.p, t.scanCycles)) = some (0x15, 0xFE, 0x15, 3) := by decide

theorem test_K2 : (after [0x48] { base with a := 0x12, sp := 0x00 }).map
    (fun t => (stkAt 0x00 t, t.sp, t.scanCycles)) = some (0x12, 0xFF, 3) := by decide

theorem test_K3 : (after [0x28] (stk 0xFF 0xFF { base with sp := 0xFE })).map
    (fun t => (t.p, t.sp, t.scanCycles)) = some (0xFF, 0xFF, 4) := by decide

theorem test_K4 : (after [0x68] (stk 0x00 0x80 { base with a := 0x00 })).map
    (fun t => (t.a, t.sp, t.p, t.scanCycles)) = some (0x80, 0x00, 0x80, 4) := by decide

theorem test_K5 : (after [0x9A] { base with x := 0x00, p := 0x82 }).map
    (fun t => (t.sp, t.p, t.scanCycles)) = some (0x00, 0x82, 2) := by decide

theorem test_K6 : (after [0xBA] { base with sp := 0xFD, p := 0x02 }).map
    (fun t => (t.x, t.p, t.scanCycles)) = some (0xFD, 0x80, 2) := by decide

theorem test_K7 : (after [0x22] { base with a := 0x10, x := 0x20, p := 0x20 }).map
    (fun t => (t.a, t.x, t.p, t.scanCycles)) = some (0x20, 0x10, 0x00, 3) := by decide

theorem test_K8 : (after [0x02] { base with x := 0x01, y := 0x02 }).map
    (fun t => (t.x, t.y, t.scanCycles)) = some (0x02, 0x01, 3) := by decide

theorem test_K9 : (after [0x62] { base with a := 0x55 }).map
    (fun t => (t.a, t.p, t.scanCycles)) = some (0x00, 0x00, 2) := by decide

theorem test_K10 : (after [0xA9, 0x00] { base with p := 0xA0 }).map
    (fun t => (t.a, t.p, t.scanCycles)) = some (0x00, 0x02, 2) := by decide

theorem test_K11 : (after [0xB6, 0xFF] (zp 0x01 0x80 { base with y := 0x02 })).map
    (fun t => (t.x, t.p, t.scanCycles)) = some (0x80, 0x80, 4) := by decide

theorem test_K12 : (after [0x9D, 0x00, 0x40] { base with a := 0x42, x := 0x01, p := 0x20 }).map
    (fun t => (at_ 0x4001 t, t.p, t.scanCycles)) = some (0x42, 0x00, 5) := by decide

theorem test_K13 : (after [0x64, 0x20] (zp 0x20 0x77 base)).map
    (fun t => (zpRead 0x20 t, t.scanCycles)) = some (0x00, 4) := by decide

theorem test_K14 : (after [0x8D, 0x02, 0x00] { base with a := 0x99 }).map
    (fun t => (t.calls, t.scanCycles)) = some ([.timerPeriod 100000, .ioWrite 0x0002 0x99], 5) := by decide

theorem test_K15 : (after [0xAD, 0x00, 0x00] base).map
    (fun t => (t.a, t.p, t.calls, t.scanCycles)) =
      some (0x5A, 0x00, [.timerPeriod 100000, .ioRead 0x0000 0x5A], 5) := by decide

/-! ### Block transfers and banks -/

theorem test_B2 : (after [0x73, 0x00, 0x40, 0x01, 0x40, 0x03, 0x00] (put 0x4000 0xAB base)).map
    (fun t => (at_ 0x4001 t, at_ 0x4002 t, at_ 0x4003 t, t.pc, t.scanCycles)) =
      some (0xAB, 0xAB, 0xAB, 0xE007, 35) := by decide

theorem test_B3 : (after [0x73, 0x00, 0x40, 0x10, 0x40, 0x00, 0x00] base).map
    (fun t => (t.calls, at_ 0x4010 t, t.scanCycles)) = some ([.timerPeriod 100000], 0x00, 17) := by decide

theorem test_B4 : (after [0xC3, 0x02, 0x40, 0x12, 0x40, 0x03, 0x00]
    (put 0x4000 0x11 (put 0x4001 0x22 (put 0x4002 0x33 base)))).map
    (fun t => (at_ 0x4010 t, at_ 0x4011 t, at_ 0x4012 t, t.scanCycles)) = some (0x11, 0x22, 0x33, 35) := by decide

theorem test_B5 : (after [0xD3, 0x00, 0x40, 0x02, 0x00, 0x03, 0x00]
    (put 0x4000 0x11 (put 0x4001 0x22 (put 0x4002 0x33 base)))).map
    (fun t => (t.calls.tail, t.scanCycles)) =
      some ([.ioWrite 0x0002 0x33, .ioWrite 0x0002 0x22, .ioWrite 0x0002 0x11], 35) := by decide

theorem test_B6 : (after [0xE3, 0x00, 0x40, 0x02, 0x00, 0x03, 0x00]
    (put 0x4000 0x11 (put 0x4001 0x22 (put 0x4002 0x33 base)))).map
    (fun t => (t.calls.tail, t.scanCycles)) =
      some ([.ioWrite 0x0002 0x33, .ioWrite 0x0003 0x22, .ioWrite 0x0002 0x11], 35) := by decide

theorem test_B7 : (after [0xF3, 0x00, 0x40, 0x10, 0x40, 0x05, 0x00] (put 0x4000 0xAA (put 0x4001 0x55 base))).map
    (fun t => (at_ 0x4010 t, at_ 0x4011 t, at_ 0x4012 t, at_ 0x4013 t, at_ 0x4014 t, t.scanCycles)) =
      some (0xAA, 0x55, 0xAA, 0x55, 0xAA, 47) := by decide

theorem test_B8 : (after [0x53, 0x03] { base with a := 0xF8 }).map
    (fun t => (t.mpr, t.calls.tail, t.pageR.get 1, t.scanCycles)) =
      some (#v[0xF8, 0xF8, 0x02, 0x03, 0x04, 0x05, 0x06, 0x00], [.bankSet 1 0xF8, .bankSet 0 0xF8], .buf baseRam, 5) := by
  decide

theorem test_B9 : (after [0x53, 0x00] { base with a := 0xF8, p := 0x20 }).map
    (fun t => (t.mpr, t.calls.tail, t.p, t.scanCycles)) = some (base.mpr, [], 0x00, 5) := by decide

theorem test_B11 : (after [0x43, 0x06] { base with a := 0x55 }).map
    (fun t => (t.a, t.scanCycles)) = some (0x02, 4) := by decide

theorem test_B12 : (after [0x43, 0x00] { base with a := 0x55 }).map
    (fun t => (t.a, t.scanCycles)) = some (0x55, 4) := by decide

theorem test_B13 : (after [0x03, 0x05] { base with p := 0x20 }).map
    (fun t => (t.calls.tail, t.p, t.scanCycles)) = some ([.ioWrite 0x0000 0x05], 0x00, 4) := by decide

theorem test_B14 : (after [0x13, 0x34] base).map
    (fun t => (t.calls.tail, t.scanCycles)) = some ([.ioWrite 0x0002 0x34], 4) := by decide

theorem test_B15 : (after [0x23, 0x12] base).map
    (fun t => (t.calls.tail, t.scanCycles)) = some ([.ioWrite 0x0003 0x12], 4) := by decide

theorem test_B16 : (after [0x54] { base with p := 0x20 }).map
    (fun t => (t.p, t.a, t.scanCycles)) = some (0x00, base.a, 3) := by decide

/-! ### Flags, SET, NOP, undefined -/

theorem test_F1 : (after [0xF4] base).map (fun t => (t.p, t.scanCycles)) = some (0x20, 2) := by decide

theorem test_F2 : (after [0x58] { base with p := 0x24 }).map (fun t => (t.p, t.scanCycles)) = some (0x00, 2) := by decide

theorem test_F3 : (after [0xF8] base).map (fun t => (t.p, t.scanCycles)) = some (0x08, 2) := by decide

theorem test_F4 : (after [0xEA] { base with p := 0x20 }).map
    (fun t => (t.p, t.pc, t.scanCycles)) = some (0x00, 0xE001, 2) := by decide

theorem test_F7 : (after [0xFC] { base with a := 0x01, p := 0x20 }).map
    (fun t => (t.status, t.pc, t.p, t.scanCycles, t.calls.length)) =
      some (.halted 0xE000 0xFC, 0xE000, 0x20, 0, 1) := by decide

/-! ### The loop and the interrupt controller -/

theorem test_I1 : (after [0xEA] { base with scanCycles := 454 }).map
    (fun t => (t.scanCycles, t.calls)) = some (1, [.timerPeriod 100000, .callback .none]) := by decide

theorem test_I2 : (after [0xEA] { base with scanCycles := 453 }).map
    (fun t => (t.scanCycles, t.calls)) = some (455, [.timerPeriod 100000]) := by decide

theorem test_I3 : (after [0xEA] { base with scanCycles := 762 }).map (fun t => t.scanCycles) = some 309 := by decide

theorem test_I4 : (after [0xEA] (onCallback .quit { base with scanCycles := 454, timerDelta := 200000 })).map
    (fun t => (t.status, t.timerDelta, t.pending, t.calls)) =
      some (.quit, 200002, Pending.empty, [.callback .quit]) := by decide

theorem test_I5 : (after [0xEA] (onCallback (.request .irq) { base with scanCycles := 454, p := 0x04 })).map
    (fun t => (t.pending, t.pc, t.sp)) = some (Pending.empty, 0xE001, 0xFF) := by decide

theorem test_I7 : (after [0xEA] (onCallback (.request .irq) (onPeriod 100
    { base with scanCycles := 454, timerDelta := 99 }))).map
    (fun t => (t.pending.irq, t.pending.timer, t.sp, flag t.p .i)) = some (true, false, 0xFC, true) := by decide

theorem test_I8 : (after [0xF4] (onCallback (.request .irq) { base with scanCycles := 454 })).map
    (fun t => (stkAt 0xFF t, stkAt 0xFE t, stkAt 0xFD t, t.p, t.scanCycles)) = some (0xE0, 0x01, 0x20, 0x24, 8) := by
  decide

theorem test_I9 : (let t := enter .nmi { base with p := 0x80 }; (stkAt 0xFD t, t.p)) = (0x80, 0x80) := by decide

theorem test_I10 : (after [0xEA] (onPeriod 0 { base with p := 0x04 })).map
    (fun t => (t.timerDelta, t.pending)) = some (0, Pending.empty) := by decide

theorem test_I11 : (let b : Boot := { Boot.named with pageR := table, pageW := table, mem := [(8191, 0xE0)] }
    let t := resetWith b
    (t.pc, flag t.p .i, flag t.p .d, flag t.p .t, flag t.p .b, t.scanCycles, t.pending)) =
      (0xE000, true, false, false, false, 0, Pending.empty) := by decide

theorem test_timer_backlog : (after [0xEA] (onPeriod 50 { base with timerDelta := 148 })).map
    (fun t => (t.timerDelta, t.pending.timer, t.sp)) = some (7, false, 0xFC) := by decide

/-- The same backlog, come from a host pause of 148 (R431). -/
theorem test_timer_pause : (after [0xEA] (onPeriod 50 (onPause 148 base))).map
    (fun t => (t.timerDelta, t.pending.timer, t.sp)) = some (7, false, 0xFC) := by decide

theorem test_nmi_before_timer : (after [0xEA] (onCallback (.request .nmi) (onPeriod 100
    { base with scanCycles := 454, timerDelta := 100 }))).map
    (fun t => ([stkAt 0xFF t, stkAt 0xFE t, stkAt 0xFD t, t.sp, t.p], t.scanCycles, t.timerDelta, t.pending.timer)) =
      some ([0xE0, 0x01, 0x00, 0xFC, 0x00], 8, 9, true) := by decide

/-! ### The host's two questions -/

/-- From reset, with a table word placed where the fetch reads, the step runs that instruction. -/
theorem test_withFetchWord_lda : (match step (State.reset.withFetchWord 16 0x42A9) with
    | .next _ => true
    | .fault _ => false
    | .refused _ => false) = true := by decide

theorem test_withFetchWord_fetches : (fetch (State.reset.withFetchWord 56 0x00030010400073)).1 =
    [0x73, 0x00, 0x40, 0x10, 0x00, 0x03, 0x00] := by decide

/-- A slot behind the I/O sentinel is opened for the word. -/
theorem test_withFetchWord_io : (fetch (State.withFetchWord { base with pc := 0x0000 } 8 0xEA)).1 = [0xEA] := by decide

/-! ## Witnesses: concrete states and operands that meet the hypotheses of each statement, clause by clause -/

/-- A state in which slot 1 maps BASE_RAM. -/
def aliased : State :=
  { base with pageR := #v[.io, .buf baseRam, .buf 2, .buf 3, .buf 4, .buf 5, .buf 6, .buf 0],
              pageW := #v[.io, .buf baseRam, .buf 2, .buf 3, .buf 4, .buf 5, .buf 6, .buf 0] }

theorem witness_StepRunsDecodedInstruction :
    let s := placeBytes [0x69, 0x01] 0xE000 base
    s.status = .running ∧ (Instr.adcImm 0x01).wellFormed = true ∧ CodeAt s s.pc (encode (.adcImm 0x01)) :=
  ⟨rfl, rfl, ⟨_, rfl, rfl⟩, ⟨_, rfl, rfl⟩, trivial⟩

theorem witness_OnlyARunningMachineSteps :
    State.reset.status = .running ∧ { State.reset with status := .quit }.status ≠ .running ∧
    { State.reset with status := .halted 0xFFFF 0xFC }.status ≠ .running := by decide

theorem witness_DecodeOfEncode :
    (Instr.bpl (-128)).wellFormed = true ∧ (Instr.bbs7 0xFF 127).wellFormed = true ∧
    (Instr.tii 0x0000 0xFFFF 0xFFFF).wellFormed = true := by decide

theorem witness_EncodeOfDecode : decode [0xD0, 0xF9, 0xEA] = .ok (.bne (-7), [0xEA]) := rfl

theorem witness_UndefinedOpcodesHalt :
    (⟨.undef0B, 0x0B⟩ : PlainForm) ∈ undefinedForms ∧ (⟨.undefFC, 0xFC⟩ : PlainForm) ∈ undefinedForms ∧
    (∀ f ∈ undefinedForms, Instr.nop ≠ f.i) ∧ exec .nop base = .next (clearT (start 0xEA 1 base)) :=
  ⟨by simp [undefinedForms], by simp [undefinedForms], by simp [undefinedForms], rfl⟩

theorem witness_InvKeptByStep : base.Inv ∧ ∃ t, step base = .next t := by
  refine ⟨⟨by decide, fun pc op h => ?_⟩, _, rfl⟩
  cases h

theorem witness_InvKeptByStep_halts :
    let s := placeBytes [0xFC] 0xE000 base
    s.Inv ∧ ∃ t, step s = .next t ∧ t.status = .halted 0xE000 0xFC := by
  refine ⟨⟨by decide, fun pc op h => ?_⟩, _, rfl, rfl⟩
  cases h

theorem witness_ResetReadsTheVector : Boot.named.pageR.get 7 ≠ .io := by decide

theorem witness_PagedReadFollowsReadTable :
    base.pageR.get (slot 0x0000) = .io ∧ base.pageR.get (slot 0x1FFF) = .io ∧
    base.pageR.get (slot 0x2000) = .buf 1 ∧ base.pageR.get (slot 0xFFFF) = .buf 0 := by decide

theorem witness_PagedWriteFollowsWriteTable :
    let s := { base with pageW := #v[.io, .buf 1, .buf 9, .buf 3, .buf 4, .buf 5, .buf 6, .buf 0] }
    s.pageW.get (slot 0x1FFF) = .io ∧ s.pageW.get (slot 0x2000) = .buf 1 ∧ s.pageR.get (slot 0x2000) = .buf 1 ∧
    s.pageW.get (slot 0x4000) = .buf 9 ∧ s.pageR.get (slot 0x4000) = .buf 2 := by decide

theorem witness_ZeroPageAndStackAliasPagedAccess :
    aliased.pageR.get (slot 0x2000) = .buf baseRam ∧ aliased.pageW.get (slot 0x2000) = .buf baseRam ∧
    offset 0x2000 < 0x100 ∧ offset 0x20FF < 0x100 ∧ offset 0x21FF = 0x100 + aliased.sp.toNat ∧
    offset 0x2100 = 0x100 + (aliased.sp + 1).toNat := by decide

/-- Both kinds of location, a wrapping index among them, and a mode whose location is in a buffer. -/
theorem witness_OperandReadOnlyCallsIo :
    (Mode.zpx 0xFF).loc { base with x := 0x01 } = .zp 0x00 ∧
    (Mode.absx 0xFFFF).loc { base with x := 0x01 } = .log 0x0000 ∧
    ∀ (mode : Mode) (addr : Word), Src.mem (.abs 0x2000) = .mem mode → mode.loc base = .log addr →
      base.pageR.get (slot addr) ≠ .io :=
  ⟨by decide, by decide, fun _ _ h hl => by cases h; cases hl; decide⟩

/-- A zero-page pointer at $FF: low byte from $FF, high byte from $00 (R81). -/
theorem witness_OperandReadOnlyCallsIo_pointer :
    (Mode.zpiy 0xFF).loc { zp 0x00 0xFF (zp 0xFF 0xFE base) with y := 0x03 } = .log 0x0001 := by decide

theorem witness_ComparesWriteOnlyFlags :
    (Reg.a, cmpForms 0x01 0x10 0x4000) ∈ [(Reg.a, cmpForms 0x01 0x10 0x4000), (Reg.x, cpxForms 0x01 0x10 0x4000),
      (Reg.y, cpyForms 0x01 0x10 0x4000)] ∧
    ⟨.cmpImm 0x01, 0xC9, .imm 0x01⟩ ∈ cmpForms 0x01 0x10 0x4000 ∧
    ⟨.cpxAbs 0x4000, 0xEC, .mem (.abs 0x4000)⟩ ∈ cpxForms 0x01 0x10 0x4000 ∧
    ⟨.cpyZp 0x10, 0xC4, .mem (.zp 0x10)⟩ ∈ cpyForms 0x01 0x10 0x4000 :=
  ⟨List.mem_cons_self, by simp [cmpForms], by simp [cpxForms], by simp [cpyForms]⟩

theorem witness_AdcAddsInBinary :
    ⟨.adcImm 0x01, 0x69, .imm 0x01⟩ ∈ adcForms 0x01 0x10 0x4000 ∧ flag base.p .d = false ∧ flag base.p .t = false :=
  ⟨by simp [adcForms], by decide, by decide⟩

/-- Valid digits at the top of their range, and an operand that is no BCD. -/
theorem witness_AdcAddsInDecimal :
    ⟨.adcImm 0x99, 0x69, .imm 0x99⟩ ∈ adcForms 0x99 0x10 0x4000 ∧
    flag { base with p := 0x09 }.p .d = true ∧ flag { base with p := 0x09 }.p .t = false ∧
    { base with a := 0x90 }.a.toNat = 16 * 9 + 0 ∧ (operand (.imm 0x99) base).1.toNat = 16 * 9 + 9 ∧
    (validBcd { base with a := 0x0A }.a && validBcd (operand (.imm 0x00) base).1) = false :=
  ⟨by simp [adcForms], by decide, by decide, by decide, by decide, by decide⟩

theorem witness_SbcSubtractsInBinary :
    ⟨.sbcZp 0x10, 0xE5, .mem (.zp 0x10)⟩ ∈ sbcForms 0x01 0x10 0x4000 ∧ flag { base with p := 0x20 }.p .d = false :=
  ⟨by simp [sbcForms], by decide⟩

theorem witness_SbcSubtractsInDecimal :
    ⟨.sbcImm 0x99, 0xE9, .imm 0x99⟩ ∈ sbcForms 0x99 0x10 0x4000 ∧ flag { base with p := 0x28 }.p .d = true ∧
    { base with a := 0x00 }.a.toNat = 16 * 0 + 0 ∧ (operand (.imm 0x99) base).1.toNat = 16 * 9 + 9 ∧
    (validBcd { base with a := 0x90 }.a && validBcd (operand (.imm 0xA0) base).1) = false :=
  ⟨by simp [sbcForms], by decide, by decide, by decide, by decide⟩

theorem witness_LogicCombinesBits :
    (or, orForms 0x01 0x10 0x4000) ∈ [(and, andForms 0x01 0x10 0x4000), (or, orForms 0x01 0x10 0x4000),
      (xor, eorForms 0x01 0x10 0x4000)] ∧
    ⟨.andImm 0x01, 0x29, .imm 0x01⟩ ∈ andForms 0x01 0x10 0x4000 ∧
    ⟨.oraZpix 0x10, 0x01, .mem (.zpix 0x10)⟩ ∈ orForms 0x01 0x10 0x4000 ∧
    ⟨.eorAbsx 0x4000, 0x5D, .mem (.absx 0x4000)⟩ ∈ eorForms 0x01 0x10 0x4000 ∧ flag base.p .t = false :=
  ⟨List.mem_cons_of_mem _ List.mem_cons_self, by simp [andForms], by simp [orForms], by simp [eorForms], by decide⟩

theorem witness_TransferModeUsesZeroPageAtX :
    ⟨.andImm 0x01, 0x29, .imm 0x01⟩ ∈ andForms 0x01 0x10 0x4000 ++ orForms 0x01 0x10 0x4000 ++
      eorForms 0x01 0x10 0x4000 ++ adcForms 0x01 0x10 0x4000 ∧
    ⟨.adcAbsx 0x4000, 0x7D, .mem (.absx 0x4000)⟩ ∈ andForms 0x01 0x10 0x4000 ++ orForms 0x01 0x10 0x4000 ++
      eorForms 0x01 0x10 0x4000 ++ adcForms 0x01 0x10 0x4000 ∧ flag { base with p := 0x20 }.p .t = true :=
  ⟨by simp [andForms], by simp [adcForms], by decide⟩

theorem witness_ShiftsMoveBitsThroughCarry :
    (∃ f ∈ aslForms 0x10 0x4000, f.i = .aslAcc ∧ f.mode = none) ∧
    ∃ f ∈ rorForms 0x10 0x4000, f.i = .rorAbs 0x4000 ∧ f.mode = some (.abs 0x4000) := by
  simp [aslForms, rorForms]

theorem witness_IncrementsAndDecrementsKeepCarry :
    (∃ f ∈ incForms 0x10 0x4000, f.i = .iny ∧ f.mode = none) ∧
    ∃ f ∈ decForms 0x10 0x4000, f.i = .decAbsx 0x4000 ∧ f.mode = some (.absx 0x4000) := by
  simp [incForms, decForms]

theorem witness_BitTestsOperandAgainstA : ⟨.bitImm 0xC0, 0x89, .imm 0xC0⟩ ∈ bitForms 0xC0 0x10 0x4000 := by
  simp [bitForms]

theorem witness_TstTestsMemoryAgainstMask :
    ⟨.tstAbsx 0xFF 0x4000, 0xB3, .absx 0x4000⟩ ∈ tstForms 0xFF 0x10 0x4000 := by simp [tstForms]

theorem witness_TsbAndTrbWriteBitsOfA :
    ((fun m a => m || a), tsbForms 0x20 0x4000) ∈ [((fun m a => m || a), tsbForms 0x20 0x4000),
      ((fun m a => m && !a), trbForms 0x20 0x4000)] ∧
    ⟨.tsbZp 0x20, 0x04, .zp 0x20⟩ ∈ tsbForms 0x20 0x4000 ∧
    ⟨.trbAbs 0x4000, 0x1C, .abs 0x4000⟩ ∈ trbForms 0x20 0x4000 :=
  ⟨List.mem_cons_self, by simp [tsbForms], by simp [trbForms]⟩

theorem witness_BitModifyWritesOneBit :
    (Instr.rmb0 0x30, 0x07, 0, false) ∈ bitModifyForms 0x30 ∧ (Instr.smb7 0x30, 0xF7, 7, true) ∈ bitModifyForms 0x30 := by
  simp [bitModifyForms]

theorem witness_BranchesGoWhereTheFlagSays :
    (Instr.bne (-7), 0xD0, Flag.z, false) ∈ branchForms (-7) ∧ flag base.p .z = false ∧
    flag { base with p := 0x02 }.p .z ≠ false := ⟨by simp [branchForms], by decide, by decide⟩

theorem witness_BitBranchesTestTheZeroPageBit :
    (Instr.bbs7 0x20 16, 0xFF, 7, true) ∈ bitBranchForms 0x20 16 ∧ (zpRead 0x20 (zp 0x20 0x80 base)).getLsbD 7 = true ∧
    (zpRead 0x20 base).getLsbD 7 ≠ true := ⟨by simp [bitBranchForms], by decide, by decide⟩

theorem witness_ReturnUndoesCall :
    ∃ t r : State, exec (.jsr 0xD000) base = .next t ∧ r.sp = t.sp ∧
      r.mem.read (stackCell base.sp) = t.mem.read (stackCell base.sp) ∧
      r.mem.read (stackCell (base.sp - 1)) = t.mem.read (stackCell (base.sp - 1)) :=
  ⟨_, { callAbs 0x20 0xD000 base with pc := 0xD123, a := 0x00 }, rfl, rfl, rfl, rfl⟩

theorem witness_ReturnUndoesCall_bsr :
    ∃ t, exec (.bsr (-128)) base = .next t ∧ t.sp = 0xFD := ⟨_, rfl, by decide⟩

theorem witness_JumpsSetPc :
    (Instr.jmpIndx 0x4000, (0x7C : Byte), (0x4000 : Word) + base.x.zeroExtend 16) ∈
      [(Instr.jmpInd 0x4000, 0x6C, 0x4000), (Instr.jmpIndx 0x4000, 0x7C, 0x4000 + base.x.zeroExtend 16)] :=
  List.mem_cons_of_mem _ List.mem_cons_self

theorem witness_BlockTransfersMoveBytesInOrder :
    (∃ f ∈ blockForms 0x4000 0x4010 0xFFFF, f.1 = .tai 0x4000 0x4010 0xFFFF) ∧ 0xFFFE < (0xFFFF : Word).toNat := by
  refine ⟨?_, by decide⟩
  simp [blockForms]

/-- Two ranges of the RAM window at slot 2 that touch and do not overlap. -/
theorem witness_TiiCopiesDisjointRanges :
    (∀ k < (3 : Word).toNat, readCell (0x4000 + BitVec.ofNat 16 k) base = some (cellKey 2 k)) ∧
    (∀ k < (3 : Word).toNat, writeCell (0x4003 + BitVec.ofNat 16 k) base = some (cellKey 2 (3 + k))) ∧
    ∀ k < (3 : Word).toNat, ∀ n < (3 : Word).toNat,
      cellKey 2 (3 + k) ≠ cellKey 2 n ∧ (cellKey 2 (3 + k) = cellKey 2 (3 + n) → k = n) := by decide

theorem witness_BankTransfersFollowTheMask :
    (0x81 : Byte).getLsbD (0 : Fin 8) = true ∧ (0x81 : Byte).getLsbD (7 : Fin 8) = true ∧
    (0x81 : Byte).getLsbD (1 : Fin 8) = false ∧
    (∀ j : Fin 8, 7 < j → (0x81 : Byte).getLsbD j = false) ∧ ∀ j : Fin 8, 0 < j → (0x01 : Byte).getLsbD j = false := by
  decide

theorem witness_OnlyTamChangesTheMapping : (∀ mask, Instr.tma 0x80 ≠ .tam mask) ∧ ∃ t, exec (.tma 0x80) base = .next t :=
  ⟨fun _ h => (by cases h), _, rfl⟩

theorem witness_PortStoresCallTheIoHandler :
    (Instr.st0 0x05, (0x03 : Byte), (0x0000 : Word)) ∈ portForms 0x05 ∧
    (Instr.st2 0x05, (0x23 : Byte), (0x0003 : Word)) ∈ portForms 0x05 := by simp [portForms]

theorem witness_LoadsSetRegisterAndNZ :
    (Reg.y, ldyForms 0x80 0x10 0x4000) ∈ [(Reg.a, ldaForms 0x80 0x10 0x4000), (Reg.x, ldxForms 0x80 0x10 0x4000),
      (Reg.y, ldyForms 0x80 0x10 0x4000)] ∧
    ⟨.ldyImm 0x80, 0xA0, .imm 0x80⟩ ∈ ldyForms 0x80 0x10 0x4000 ∧
    ⟨.ldxZpy 0x10, 0xB6, .mem (.zpy 0x10)⟩ ∈ ldxForms 0x80 0x10 0x4000 ∧
    ⟨.ldaZpiy 0x10, 0xB1, .mem (.zpiy 0x10)⟩ ∈ ldaForms 0x80 0x10 0x4000 :=
  ⟨List.mem_cons_of_mem _ (List.mem_cons_of_mem _ List.mem_cons_self), by simp [ldyForms], by simp [ldxForms],
   by simp [ldaForms]⟩

theorem witness_StoresWriteOneByte :
    ((fun _ => 0x00), stzForms 0x20 0x4000) ∈
      [((fun s : State => s.a), staForms 0x20 0x4000), ((fun s => s.x), stxForms 0x20 0x4000),
       ((fun s => s.y), styForms 0x20 0x4000), ((fun _ => (0x00 : Byte)), stzForms 0x20 0x4000)] ∧
    ⟨.staAbsx 0x4000, 0x9D, .absx 0x4000⟩ ∈ staForms 0x20 0x4000 ∧ ⟨.stxZpy 0x20, 0x96, .zpy 0x20⟩ ∈ stxForms 0x20 0x4000 ∧
    ⟨.styZp 0x20, 0x84, .zp 0x20⟩ ∈ styForms 0x20 0x4000 ∧ ⟨.stzAbsx 0x4000, 0x9E, .absx 0x4000⟩ ∈ stzForms 0x20 0x4000 :=
  ⟨List.mem_cons_of_mem _ (List.mem_cons_of_mem _ (List.mem_cons_of_mem _ List.mem_cons_self)), by simp [staForms],
   by simp [stxForms], by simp [styForms], by simp [stzForms]⟩

/-- A store behind the I/O sentinel and one into a buffer: both cases of `Stored`. -/
theorem witness_StoresWriteOneByte_cells :
    (Loc.log 0x1FFF).cell base = none ∧ (Loc.log 0x2000).cell base = some (cellKey 1 0) ∧
    (Loc.zp 0xFF).cell base = some (cellKey baseRam 0xFF) := by decide

theorem witness_TransfersCopyRegisters : ⟨.tsx, 0xBA, .s, .x⟩ ∈ transferForms ∧ Reg.y ≠ Reg.x :=
  ⟨by simp [transferForms], by decide⟩

theorem witness_SwapsAndClearsWriteNoFlagButT :
    ⟨.sxy, 0x02, .x, .y⟩ ∈ swapForms ∧ (Instr.cla, (0x62 : Byte), Reg.a) ∈ clearForms :=
  ⟨by simp [swapForms], by simp [clearForms]⟩

theorem witness_PushesStoreOneStackByte : (Instr.phx, (0xDA : Byte), Reg.x) ∈ pushForms := by simp [pushForms]

theorem witness_PullsLoadOneStackByte : (Instr.ply, (0x7A : Byte), Reg.y) ∈ pullForms := by simp [pullForms]

theorem witness_FlagInstructionsWriteTheirFlag :
    (Instr.sei, (0x78 : Byte), Flag.i, true) ∈ flagForms ∧ (⟨.csh, 0xD4⟩ : PlainForm) ∈ idleForms :=
  ⟨by simp [flagForms], by simp [idleForms]⟩

theorem witness_TransferFlagLastsOneInstruction :
    Instr.php ≠ .set ∧ Instr.php ≠ .plp ∧ Instr.php ≠ .rti ∧ (∀ f ∈ undefinedForms, Instr.php ≠ f.i) ∧
    ∃ t, exec .php { base with p := 0x20 } = .next t :=
  ⟨by decide, by decide, by decide, by simp [undefinedForms], _, rfl⟩

theorem witness_EveryInstructionChargesBothCounters :
    (∀ f ∈ undefinedForms, Instr.tii 0x4000 0x4010 0 ≠ f.i) ∧ ∃ t, exec (.tii 0x4000 0x4010 0) base = .next t :=
  ⟨by simp [undefinedForms], _, rfl⟩

theorem witness_CountersDoNotInfluenceInstructions :
    ∃ t, exec (.adcAbs 0x0000) { base with scanCycles := 455 } = .next t := ⟨_, rfl⟩

theorem witness_InterruptsOnlyAtCheckPoints :
    { base with status := .halted 0xE000 0xFC }.status ≠ .running ∧
    (let s := { base with scanCycles := 455, timerDelta := 100000 }
     s.status = .running ∧ s.scanCycles ≤ 455 ∧ (hostPause s).timerDelta ≤ periodValue (hostPause s)) ∧
    (let s := onPause 1 { base with scanCycles := 455, timerDelta := 100000 }
     s.status = .running ∧ (scanlineStep s).1.status = .running ∧ (scanlineStep s).2 = false ∧
       (timerStep (hostPause (scanlineStep s).1)).2 = true) ∧
    (let s := onCallback (.request .irq) { base with scanCycles := 456 }
     s.status = .running ∧ (scanlineStep s).1.status = .running ∧ (scanlineStep s).2 = true ∧
       (timerStep (hostPause (scanlineStep s).1)).2 = false) ∧
    (let s := base
     s.status = .running ∧ (scanlineStep s).1.status = .running ∧ (scanlineStep s).2 = false ∧
       (timerStep (hostPause (scanlineStep s).1)).2 = false) ∧
    (let s := onCallback .quit { base with scanCycles := 456 }
     s.status = .running ∧ 455 < s.scanCycles ∧
       (callbackValue { s with scanCycles := s.scanCycles - 455 }).result = .quit) := by decide

theorem witness_CallbackResultsMeanWhatTheySay :
    (let s := onCallback .quit { base with scanCycles := 456 }
     s.status = .running ∧ 455 < s.scanCycles ∧
       (callbackValue { s with scanCycles := s.scanCycles - 455 }).result = .quit) ∧ Source.nmi ≠ .timer := by decide

theorem witness_ScanlineCallbackRunsOnceOverBudget :
    { base with scanCycles := 455 }.scanCycles ≤ 455 ∧ 455 < { base with scanCycles := 456 }.scanCycles := by decide

theorem witness_TimerFiresOnceAndClampsBacklog :
    (let s := onPeriod 50 { base with timerDelta := 50 }; s.timerDelta ≤ periodValue s) ∧
    (let s := onPeriod 50 { base with timerDelta := 99 }
     periodValue s < s.timerDelta ∧ s.timerDelta < 2 * periodValue s) ∧
    (let s := onPeriod 50 { base with timerDelta := 100 }
     periodValue s < s.timerDelta ∧ 2 * periodValue s ≤ s.timerDelta) ∧
    (let s := onPeriod 50 (onPause 1 { base with timerDelta := 50 })
     periodValue (hostPause s) < s.timerDelta + pauseValue s) := by decide

theorem witness_ServiceEntersTheFirstDeliverable :
    (let s := { base with pending := { Pending.empty with timer := true, irq := true }, p := 0x04 }
     [Source.nmi, .timer, .irq, .irq2].find? (fun src => s.pending.has src &&
       (decide (src = Source.nmi) || (!flag s.p .i && !IrqMask.masked (maskValue s) src))) = none) ∧
    (let s := { base with pending := { Pending.empty with timer := true, irq := true } }
     [Source.nmi, .timer, .irq, .irq2].find? (fun src => s.pending.has src &&
       (decide (src = Source.nmi) || (!flag s.p .i && !IrqMask.masked (maskValue s) src))) = some .timer) := by decide

theorem witness_InterruptEntrySavesPcAndP :
    (Source.nmi, (0xFFFC : Word)) ∈ [(Source.irq2, (0xFFF6 : Word)), (Source.irq, 0xFFF8), (Source.timer, 0xFFFA),
      (Source.nmi, 0xFFFC)] ∧ Source.irq2 ≠ .nmi := by decide

theorem witness_RtiUndoesInterruptEntry :
    let s := { base with p := 0xE3, pc := 0xE123 }
    let r := { enter .timer s with a := 0x77, p := 0x00 }
    r.sp = (enter .timer s).sp ∧ ∀ n < 3, r.mem.read (stackCell (s.sp - BitVec.ofNat 8 n)) =
      (enter .timer s).mem.read (stackCell (s.sp - BitVec.ofNat 8 n)) := ⟨rfl, fun _ _ => rfl⟩

end Sys2Proof.Tests
end

section
/-! SUPPORT. The flag helper `setNZ` (R14), and what every instruction adds to the two cycle counters (R13, R470 to
R472): one lemma for each shared operation whose cost is more than `CYCLES(op)`, then one case for each effect. -/

namespace Sys2Proof.Laws

open Sys2Proof.Machine
open Sys2Proof.Config (tmodeExtra branchExtra blockBase blockPerByte)
open Sys2Proof.Claims (PlainForm undefinedForms)

/-- Settles O17, flag by flag from the spec lemma of `setNZ`. -/
theorem setNZWritesZeroAndNegative : Obligations.SetNZWritesZeroAndNegative := by
  unfold Obligations.SetNZWritesZeroAndNegative
  intro v p
  refine ⟨?_, flag_setNZ v p .n, flag_setNZ v p .t, ?_⟩
  · rw [flag_setNZ, Bool.beq_eq_decide_eq]
  · intro f hf
    rw [flag_setNZ]
    cases f with
    | c | i | d | b | v => rfl
    | z | n | t => simp at hf

/-! ## What is charged -/

/-- From `s` to `t` the same `n` cycles went to both counters, and `pending` is untouched (R13, R426). -/
structure Charged (n : Nat) (s t : State) : Prop where
  pending : t.pending = s.pending
  scanCycles : t.scanCycles = s.scanCycles + n
  timerDelta : t.timerDelta = s.timerDelta + n

/-- Costs add up along a sequence of operations. -/
theorem Charged.trans {m n : Nat} {s t u : State} (h : Charged m s t) (h' : Charged n t u) : Charged (m + n) s u where
  pending := h'.pending.trans h.pending
  scanCycles := by rw [h'.scanCycles, h.scanCycles, Nat.add_assoc]
  timerDelta := by rw [h'.timerDelta, h.timerDelta, Nat.add_assoc]

theorem charged_addCost (n : Nat) (s : State) : Charged n s (addCost n s) := ⟨rfl, rfl, rfl⟩

/-- The first thing an instruction does charges `CYCLES(op)`; T is cleared for nothing more. -/
theorem charged_clearT_start (op : Byte) (len : Nat) (s : State) : Charged (cycles op) s (clearT (start op len s)) :=
  ⟨rfl, rfl, rfl⟩

theorem charged_takeBranch (rel : Int) (s : State) : Charged branchExtra s (takeBranch rel s) := ⟨rfl, rfl, rfl⟩

theorem charged_accAlu (f : Byte → Byte → Byte → Result) (op : Byte) (m : Src) (s : State) :
    Charged (cycles op) s (accAlu f op m s) := by
  constructor <;> simp [accAlu]

/-- The Transfer-mode form costs `TMODE_EXTRA` more (R152, D7). -/
theorem charged_zpAlu (f : Byte → Byte → Byte → Result) (op : Byte) (m : Src) (s : State) :
    Charged (cycles op + tmodeExtra) s (zpAlu f op m s) := by
  constructor <;> simp [zpAlu, Nat.add_assoc]

theorem charged_transferAlu (f : Byte → Byte → Byte → Result) (op : Byte) (m : Src) (s : State) :
    Charged (cycles op + if flag s.p .t then tmodeExtra else 0) s (transferAlu f op m s) := by
  unfold transferAlu
  split
  · exact charged_zpAlu f op m s
  · exact charged_accAlu f op m s

/-- A branch that may be taken from `s`: `BRANCH_EXTRA` if it is (R250). -/
theorem charged_takeBranch_ite (c : Prop) [Decidable c] (rel : Int) (s : State) :
    Charged (if c then branchExtra else 0) s (if c then takeBranch rel s else s) := by
  split
  · exact charged_takeBranch rel s
  · exact ⟨rfl, rfl, rfl⟩

/-- The block transfers charge their own formula (R300, D31). -/
theorem charged_blockTransfer (f g : Nat → Word) (len : Word) (s : State) :
    Charged (blockBase + blockPerByte * len.toNat) s (blockTransfer f g len s) := by
  constructor <;> simp [blockTransfer]

/-- Taking an interrupt costs nothing by itself: BRK and the service step charge their own costs (R268, R417). -/
theorem charged_takeInterrupt (ret : Word) (pushed : Byte) (setI : Bool) (vector : Word) (s : State) :
    Charged 0 s (takeInterrupt ret pushed setI vector s) := by
  cases setI <;> constructor <;> simp [takeInterrupt, push16]

/-! ## Every instruction -/

/-- The undefined instructions of the effects are those of the statements. -/
theorem undefinedForms_eq_map : undefinedForms = undefinedInstrs.map fun e => PlainForm.mk e.1 e.2 := rfl

/-- Every effect but an undefined opcode's charges at least 2 cycles. -/
theorem charged_of_effect {i : Instr} {s t : State} (e : Effect i s t) (hd : ∀ f ∈ undefinedForms, i ≠ f.i) :
    ∃ n, 2 ≤ n ∧ Charged n s t := by
  cases e
  case undefined op hop =>
    rw [undefinedForms_eq_map] at hd
    exact absurd rfl (hd _ (List.mem_map_of_mem hop))
  case adc op m h => exact ⟨_, by omega, (charged_transferAlu addCore op m s).trans (charged_addCost _ _)⟩
  case sbc op m h => exact ⟨_, by omega, (charged_accAlu subCore op m s).trans (charged_addCost _ _)⟩
  case transferAlu f op m _ h => exact ⟨_, by omega, charged_transferAlu f op m s⟩
  case branchIf f b op rel h =>
    exact ⟨_, by omega, (charged_clearT_start op 2 s).trans (charged_takeBranch_ite _ rel _)⟩
  case branchBit n b op z rel h =>
    exact ⟨_, by omega, (charged_clearT_start op 3 s).trans (charged_takeBranch_ite _ rel _)⟩
  case softwareInterrupt op h =>
    exact ⟨_, h, (charged_clearT_start op 1 s).trans (charged_takeInterrupt _ _ _ _ _)⟩
  case blockTransfer f g len => exact ⟨_, Nat.le_add_right_of_le (by decide), charged_blockTransfer f g len s⟩
  case tam v => exact ⟨cycles 0x53, by decide, by constructor <;> simp [toBanks]⟩
  case set => exact ⟨cycles 0xF4, by decide, by constructor <;> simp⟩
  case plp => exact ⟨cycles 0x28, by decide, by constructor <;> simp [pullP]⟩
  case rti => exact ⟨cycles 0x40, by decide, by constructor <;> simp [returnInterrupt, returnFromInterrupt, pull16]⟩
  -- The rest charge `CYCLES(op)` and do nothing else to the counters.
  all_goals
    exact ⟨_, ‹2 ≤ cycles _›, by
      constructor <;> simp [compareReg, modifyReg, modifyMem, bitTest, maskTest, modifyBit, branchAlways, callRel,
        callAbs, jump, jumpIndirect, returnSub, push16, pull16, fromBanks, portStore, load, store, transfer, swap,
        clearReg, pushReg, pushP, pullReg, writeFlag]⟩

/-- Settles O52: every next state is an effect, and every defined effect charges both counters alike. -/
theorem everyInstructionChargesBothCounters : Obligations.EveryInstructionChargesBothCounters := by
  unfold Obligations.EveryInstructionChargesBothCounters
  intro i s t hd h
  obtain ⟨n, hn, hpending, hscan, htimer⟩ := charged_of_effect (exec_effect i s t h) hd
  exact ⟨hpending, n, hn, hscan, htimer⟩

end Sys2Proof.Laws
end

section
/-! SUPPORT. Rules about every step and every instruction: when a step is taken and what it keeps (R58, R73, R407), what
leaves the mapping and the T flag alone (R42, R50, R52), and that no instruction is aware of the counters (R426). -/

namespace Sys2Proof.Laws

open Sys2Proof.Machine
open Sys2Proof.Config (tmodeExtra branchExtra blockBase blockPerByte)
open Sys2Proof.Claims (undefinedForms)

/-! ## Steps and the invariant (R58, R73, R407) -/

/-- The step of a running machine: the fetched bytes decode, their instruction answers a next state, and the rest of
the iteration follows it (R410). -/
theorem step_of_running {s : State} (h : s.status = .running) :
    ∃ i t, decode (fetch s).1 = .ok (i, []) ∧ exec i (fetch s).2 = .next t ∧ step s = .next (afterInstr t) := by
  obtain ⟨i, hi⟩ := decode_fetch s
  obtain ⟨t, ht⟩ := exec_next i (fetch s).2
  exact ⟨i, t, hi, ht, by simp [step, h, hi, ht]⟩

/-- A stopped machine takes no step (R58, R407; log 32). -/
theorem step_of_not_running {s : State} (h : s.status ≠ .running) : step s = .fault .loopEnded := by
  unfold step
  cases hs : s.status with
  | running => exact absurd hs h
  | quit => rfl
  | halted pc op => rfl

/-- Settles O2: a fetch always decodes and every instruction answers a next state. -/
theorem onlyARunningMachineSteps : Obligations.OnlyARunningMachineSteps := by
  unfold Obligations.OnlyARunningMachineSteps
  exact ⟨fun _ => step_of_running, fun _ => step_of_not_running⟩

/-- The undefined instructions carry the undefined bytes (R140). -/
theorem mem_undefinedBytes {i : Instr} {op : Byte} (h : (i, op) ∈ undefinedInstrs) : op ∈ undefinedBytes :=
  List.mem_map_of_mem (f := Prod.snd) h

/-- The status, the banking registers and the page tables of `t` are those of `s` (R50, R52, R58). -/
structure SameSetup (s t : State) : Prop where
  status : t.status = s.status
  mpr : t.mpr = s.mpr
  pageR : t.pageR = s.pageR
  pageW : t.pageW = s.pageW

/-- What an instruction can do to the status and the mapping: nothing, TAM's mapping, or the halt of an undefined byte
(R320, R385, D5, D42). -/
theorem exec_setup {i : Instr} {s t : State} (h : exec i s = .next t) :
    SameSetup s t ∨ (∃ mask, i = .tam mask ∧ t = toBanks 0x53 mask s) ∨ ∃ op ∈ undefinedBytes, t = halt op s := by
  have e := exec_effect i s t h
  cases e
  case tam mask => exact .inr (.inl ⟨mask, rfl, rfl⟩)
  case undefined op hop => exact .inr (.inr ⟨op, mem_undefinedBytes hop, rfl⟩)
  -- Every other effect is made of updates of registers, memory, counters and the record of calls.
  all_goals left
  case transferAlu | adc =>
    simp only [adc, transferAlu]
    split <;> constructor <;> simp [accAlu, zpAlu]
  case branchIf | branchBit =>
    simp only [branchIf, branchBit]
    split <;> constructor <;> simp [takeBranch]
  all_goals
    constructor <;>
    simp [sbc, accAlu, compareReg, modifyReg, modifyMem, bitTest, maskTest, modifyBit, branchAlways, callRel, callAbs,
      jump, jumpIndirect, returnSub, pull16, push16, softwareInterrupt, takeInterrupt, blockTransfer, fromBanks,
      portStore, load, store, transfer, swap, clearReg, pushReg, pushP, pullReg, pullP, writeFlag, returnInterrupt,
      returnFromInterrupt]

/-- The status after an instruction: as before, or the halt an undefined byte gives, at the PC it leaves alone
(R385, R407, D5). -/
theorem exec_status {i : Instr} {s t : State} (h : exec i s = .next t) :
    t.status = s.status ∨ ∃ op ∈ undefinedBytes, t = halt op s := by
  rcases exec_setup h with hs | ⟨mask, -, rfl⟩ | hhalt
  · exact .inl hs.status
  · exact .inl (by simp [toBanks])
  · exact .inr hhalt

/-- Nothing of the iteration follows a halt (R407). -/
theorem afterInstr_of_not_running {s : State} (h : s.status ≠ .running) : afterInstr s = s := by
  unfold afterInstr
  cases hs : s.status with
  | running => exact absurd hs h
  | quit => rfl
  | halted pc op => rfl

theorem haltInfoTrue_of_status {s : State} (h : s.status = .running ∨ s.status = .quit) : HaltInfoTrue s := by
  intro pc op hs
  rcases h with h | h <;> simp [h] at hs

theorem haltInfoTrue_halt {op : Byte} (h : op ∈ undefinedBytes) (s : State) : HaltInfoTrue (halt op s) := by
  intro pc op' hs
  simp only [halt_status, Status.halted.injEq] at hs
  obtain ⟨rfl, rfl⟩ := hs
  exact ⟨rfl, h⟩

/-- An instruction run from a Running state, with the rest of its iteration, leaves the halt record true. -/
theorem haltInfoTrue_afterInstr {i : Instr} {s t : State} (hs : s.status = .running) (hw : t.mem.wf)
    (h : exec i s = .next t) : HaltInfoTrue (afterInstr t) := by
  rcases exec_status h with ht | ⟨op, hop, rfl⟩
  · obtain ⟨-, ha⟩ := afterInstr_wf t hw
    exact haltInfoTrue_of_status (by rwa [ht, hs] at ha)
  · rw [afterInstr_of_not_running (by simp)]
    exact haltInfoTrue_halt hop s

/-- Settles O7: the fetch, the instruction and the rest of the iteration each keep the canonical form, and only an
undefined byte halts, where it stands. -/
theorem invKeptByStep : Obligations.InvKeptByStep := by
  unfold Obligations.InvKeptByStep
  rintro s t ⟨hwf, -⟩ hst
  by_cases hr : s.status = .running
  · obtain ⟨i, u, -, hu, hs⟩ := step_of_running hr
    obtain rfl : afterInstr u = t := Host.Outcome.next.inj (hs.symm.trans hst)
    have hmem : (fetch s).2.mem = s.mem := by rw [fetch_state]; rfl
    have hrun : (fetch s).2.status = .running := by rw [fetch_state]; exact hr
    have huwf : u.mem.wf := exec_wf i _ u hu (hmem ▸ hwf)
    obtain ⟨hawf, -⟩ := afterInstr_wf u huwf
    exact ⟨hawf, haltInfoTrue_afterInstr hrun huwf hu⟩
  · rw [step_of_not_running hr] at hst
    exact nomatch hst

/-! ## The mapping (R50, R52, R78) -/

/-- Settles O42: TAM is the only instruction that maps, and a halt maps nothing. -/
theorem onlyTamChangesTheMapping : Obligations.OnlyTamChangesTheMapping := by
  unfold Obligations.OnlyTamChangesTheMapping
  intro i s t hi h
  rcases exec_setup h with hs | ⟨mask, rfl, -⟩ | ⟨op, -, rfl⟩
  · exact ⟨hs.mpr, hs.pageR, hs.pageW⟩
  · exact absurd rfl (hi mask)
  · exact ⟨rfl, rfl, rfl⟩

/-! ## The T flag (R42, D6) -/

theorem addCore_t (a b p : Byte) : flag (addCore a b p).p .t = false := by
  unfold addCore
  split <;> simp [addDecimal, addBinary, flag_setNZ]

theorem subCore_t (a b p : Byte) : flag (subCore a b p).p .t = false := by
  unfold subCore
  split <;> simp [subDecimal, subBinary, flag_setNZ]

theorem accAlu_t {f : Byte → Byte → Byte → Result} (hf : ∀ a b p, flag (f a b p).p .t = false) (op : Byte) (m : Src)
    (s : State) : flag (accAlu f op m s).p .t = false := by simp [accAlu, hf]

/-- Either way an operation that may run in Transfer mode takes P from its own computation (R152). -/
theorem transferAlu_t {f : Byte → Byte → Byte → Result} (hf : ∀ a b p, flag (f a b p).p .t = false) (op : Byte)
    (m : Src) (s : State) : flag (transferAlu f op m s).p .t = false := by
  unfold transferAlu
  split
  · simp [zpAlu, hf]
  · exact accAlu_t hf op m s

/-- Settles O51: every other effect clears T itself or takes P from a computation that does. -/
theorem transferFlagLastsOneInstruction : Obligations.TransferFlagLastsOneInstruction := by
  unfold Obligations.TransferFlagLastsOneInstruction
  intro i s t hset hplp hrti hundef h
  have e := exec_effect i s t h
  cases e
  case set => exact absurd rfl hset
  case plp => exact absurd rfl hplp
  case rti => exact absurd rfl hrti
  case undefined op hop =>
    rw [undefinedForms_eq_map] at hundef
    exact absurd rfl (hundef _ (List.mem_map_of_mem hop))
  case adc op m _ => exact transferAlu_t addCore_t op m s
  case sbc op m _ => exact accAlu_t subCore_t op m s
  case transferAlu f op m hf _ => exact transferAlu_t hf op m s
  case modifyReg f r op hf _ => simp [modifyReg, hf]
  case modifyMem f op m hf _ => simp [modifyMem, hf]
  case modifyBits f op m hf _ => simp [modifyMem, hf]
  case branchIf | branchBit =>
    simp only [branchIf, branchBit]
    split <;> simp [takeBranch]
  -- The rest clear T with `clearT`, or write P through `setNZ` or `setNVZ`, which clear it.
  all_goals
    simp [compareReg, compareFlags, bitTest, bitFlags, maskTest, modifyBit, branchAlways, callRel, callAbs, jump,
      jumpIndirect, returnSub, push16, softwareInterrupt, takeInterrupt, blockTransfer, toBanks, fromBanks, portStore,
      load, store, transfer, swap, clearReg, pushReg, pushP, pullReg, writeFlag, flag_setNZ, flag_setNVZ]

/-! ## Counters and pending requests (R55, R56, R57, R426, D41) -/

/-- `s` with other counters and other pending requests. -/
def withCounters (c d : Nat) (q : Pending) (s : State) : State :=
  { s with scanCycles := c, timerDelta := d, pending := q }

section Operations

variable (c d : Nat) (q : Pending) (s : State)

@[simp] theorem withCounters_a : (withCounters c d q s).a = s.a := rfl
@[simp] theorem withCounters_x : (withCounters c d q s).x = s.x := rfl
@[simp] theorem withCounters_y : (withCounters c d q s).y = s.y := rfl
@[simp] theorem withCounters_p : (withCounters c d q s).p = s.p := rfl
@[simp] theorem withCounters_pc : (withCounters c d q s).pc = s.pc := rfl
@[simp] theorem get_withCounters (r : Reg) : (withCounters c d q s).get r = s.get r := by cases r <;> rfl

/-! Each operation on the state, run with other counters, does the same and adds the same to them. -/

@[simp] theorem addCost_withCounters (n : Nat) :
    addCost n (withCounters c d q s) = withCounters (c + n) (d + n) q (addCost n s) := rfl

@[simp] theorem advance_withCounters (len n : Nat) :
    advance len n (withCounters c d q s) = withCounters (c + n) (d + n) q (advance len n s) := rfl

@[simp] theorem start_withCounters (op : Byte) (len : Nat) :
    start op len (withCounters c d q s) = withCounters (c + cycles op) (d + cycles op) q (start op len s) := rfl

@[simp] theorem set_withCounters (r : Reg) (v : Byte) :
    (withCounters c d q s).set r v = withCounters c d q (s.set r v) := by cases r <;> rfl

@[simp] theorem withP_withCounters (p : Byte) : (withCounters c d q s).withP p = withCounters c d q (s.withP p) := rfl

@[simp] theorem withPc_withCounters (w : Word) :
    (withCounters c d q s).withPc w = withCounters c d q (s.withPc w) := rfl

@[simp] theorem putFlag_withCounters (f : Flag) (v : Bool) :
    (withCounters c d q s).putFlag f v = withCounters c d q (s.putFlag f v) := rfl

@[simp] theorem clearT_withCounters : clearT (withCounters c d q s) = withCounters c d q (clearT s) := rfl

@[simp] theorem push_withCounters (v : Byte) : push v (withCounters c d q s) = withCounters c d q (push v s) := rfl

@[simp] theorem push16_withCounters (w : Word) :
    push16 w (withCounters c d q s) = withCounters c d q (push16 w s) := rfl

@[simp] theorem pull_withCounters : pull (withCounters c d q s) = ((pull s).1, withCounters c d q (pull s).2) := rfl

@[simp] theorem zpRead_withCounters (z : Byte) : zpRead z (withCounters c d q s) = zpRead z s := rfl

@[simp] theorem zpWrite_withCounters (z v : Byte) :
    zpWrite z v (withCounters c d q s) = withCounters c d q (zpWrite z v s) := rfl

/-- A read of memory does not look at the counters. -/
theorem sameView_withCounters : SameView s (withCounters c d q s) := ⟨rfl, rfl, rfl, rfl, rfl⟩

/-- Two updates of different fields come in either order. -/
theorem withCallsOf_withCounters {s t : State} (h : t = withCallsOf t s) :
    withCallsOf t (withCounters c d q s) = withCounters c d q t := by
  rw [h]; rfl

@[simp] theorem memRead_withCounters (addr : Word) :
    memRead addr (withCounters c d q s) = ((memRead addr s).1, withCounters c d q (memRead addr s).2) := by
  rw [memRead_view (sameView_withCounters c d q s), withCallsOf_withCounters c d q (memRead_state addr s)]

@[simp] theorem memRead16_withCounters (addr : Word) :
    memRead16 addr (withCounters c d q s) = ((memRead16 addr s).1, withCounters c d q (memRead16 addr s).2) := by
  simp [memRead16]

@[simp] theorem loc_withCounters (m : Mode) : m.loc (withCounters c d q s) = m.loc s :=
  loc_view (sameView_withCounters c d q s) rfl rfl m

@[simp] theorem readLoc_withCounters (l : Loc) :
    readLoc l (withCounters c d q s) = ((readLoc l s).1, withCounters c d q (readLoc l s).2) := by
  rw [readLoc_view (sameView_withCounters c d q s), withCallsOf_withCounters c d q (readLoc_state l s)]

@[simp] theorem operand_withCounters (m : Src) :
    operand m (withCounters c d q s) = ((operand m s).1, withCounters c d q (operand m s).2) := by
  rw [operand_view (sameView_withCounters c d q s) rfl rfl, withCallsOf_withCounters c d q (operand_state m s)]

@[simp] theorem memWrite_withCounters (addr : Word) (v : Byte) :
    memWrite addr v (withCounters c d q s) = withCounters c d q (memWrite addr v s) := by
  have hcell : writeCell addr (withCounters c d q s) = writeCell addr s := rfl
  cases h : writeCell addr s with
  | some k => rw [memWrite_buffer h, memWrite_buffer (hcell.trans h)]; rfl
  | none => rw [memWrite_io h, memWrite_io (hcell.trans h)]; rfl

@[simp] theorem writeLoc_withCounters (l : Loc) (v : Byte) :
    writeLoc l v (withCounters c d q s) = withCounters c d q (writeLoc l v s) := by
  cases l with
  | zp z => rfl
  | log addr => exact memWrite_withCounters c d q s addr v

@[simp] theorem takeInterrupt_withCounters (ret : Word) (pushed : Byte) (setI : Bool) (vector : Word) :
    takeInterrupt ret pushed setI vector (withCounters c d q s) =
      withCounters c d q (takeInterrupt ret pushed setI vector s) := by
  cases setI <;> simp [takeInterrupt]

end Operations

@[simp] theorem copyBytes_withCounters (c d : Nat) (q : Pending) (f g : Nat → Word) (n : Nat) : ∀ (k : Nat) (s : State),
    copyBytes f g n k (withCounters c d q s) = withCounters c d q (copyBytes f g n k s) := by
  induction n with
  | zero => exact fun _ _ => rfl
  | succ n ih => intro k s; simp [copyBytes, ih]

@[simp] theorem foldBanks_withCounters (c d : Nat) (q : Pending) (mask v : Byte) (l : List (Fin 8)) : ∀ s : State,
    l.foldl (bankStep mask v) (withCounters c d q s) = withCounters c d q (l.foldl (bankStep mask v) s) := by
  induction l with
  | nil => exact fun _ => rfl
  | cons i l ih =>
    intro s
    have hstep : bankStep mask v (withCounters c d q s) i = withCounters c d q (bankStep mask v s i) := by
      unfold bankStep
      split <;> rfl
    rw [List.foldl_cons, List.foldl_cons, hstep, ih]

/-- At `s` the operation is unaware of the counters and the pending requests: whatever they are, it adds the same `n`
cycles to both counters, keeps the requests, and does the rest as it does from `s`. -/
def Unaware (f : State → State) (s : State) : Prop :=
  ∃ n, ∀ c d q, f (withCounters c d q s) = withCounters (c + n) (d + n) q (f s)

/-- What an unaware operation adds to the counters is what it adds from any other values of them. -/
theorem Unaware.eq {f : State → State} {s : State} (h : Unaware f s) (c d : Nat) (q : Pending) :
    f (withCounters c d q s) =
      withCounters (c + ((f s).scanCycles - s.scanCycles)) (d + ((f s).timerDelta - s.timerDelta)) q (f s) := by
  obtain ⟨n, hn⟩ := h
  have hs : f s = withCounters (s.scanCycles + n) (s.timerDelta + n) s.pending (f s) :=
    hn s.scanCycles s.timerDelta s.pending
  have hscan : (f s).scanCycles - s.scanCycles = n := by rw [hs]; exact Nat.add_sub_cancel_left ..
  have htimer : (f s).timerDelta - s.timerDelta = n := by rw [hs]; exact Nat.add_sub_cancel_left ..
  rw [hscan, htimer, hn]

/-- Costs of two unaware operations add up. -/
theorem Unaware.comp {f g : State → State} {s : State} (hf : Unaware f s) (hg : Unaware g (f s)) :
    Unaware (fun u => g (f u)) s := by
  obtain ⟨m, hm⟩ := hf
  obtain ⟨n, hn⟩ := hg
  exact ⟨m + n, fun c d q => by simp only [hm, hn, Nat.add_assoc]⟩

/-- A choice between two unaware operations, by a test that the counters do not enter. -/
theorem Unaware.ite {f g : State → State} {s : State} (p : Prop) [Decidable p] (hf : Unaware f s) (hg : Unaware g s) :
    Unaware (fun u => if p then f u else g u) s := by
  split
  · exact hf
  · exact hg

/-- Being unaware is about what the operation does from `s` with any counters, and no other state. -/
theorem Unaware.congr {f g : State → State} {s : State} (hg : Unaware g s)
    (h : ∀ c d q, f (withCounters c d q s) = g (withCounters c d q s)) : Unaware f s := by
  obtain ⟨n, hn⟩ := hg
  have hs : f s = g s := h s.scanCycles s.timerDelta s.pending
  exact ⟨n, fun c d q => by rw [h, hn, hs]⟩

/-! The shared operations of the instructions: their cost is looked up or, in Transfer and decimal mode, in a branch and
in a block transfer, computed, and never from a counter. -/

section SharedOperations

variable (s : State)

theorem unaware_addCost (n : Nat) : Unaware (addCost n) s := ⟨n, fun _ _ _ => rfl⟩

theorem unaware_idle (op : Byte) (len : Nat) : Unaware (fun u => clearT (start op len u)) s :=
  ⟨cycles op, fun _ _ _ => rfl⟩

theorem unaware_accAlu (f : Byte → Byte → Byte → Result) (op : Byte) (m : Src) : Unaware (accAlu f op m) s :=
  ⟨cycles op, fun c d q => by simp [accAlu]⟩

theorem unaware_zpAlu (f : Byte → Byte → Byte → Result) (op : Byte) (m : Src) : Unaware (zpAlu f op m) s :=
  ⟨cycles op + tmodeExtra, fun c d q => by simp [zpAlu, Nat.add_assoc]⟩

theorem unaware_transferAlu (f : Byte → Byte → Byte → Result) (op : Byte) (m : Src) :
    Unaware (transferAlu f op m) s :=
  ((unaware_zpAlu s f op m).ite (flag s.p .t = true) (unaware_accAlu s f op m)).congr fun _ _ _ => rfl

theorem unaware_adc (op : Byte) (m : Src) : Unaware (adc op m) s :=
  ((unaware_transferAlu s addCore op m).comp (unaware_addCost _ (decimalCost s.p))).congr fun _ _ _ => rfl

theorem unaware_sbc (op : Byte) (m : Src) : Unaware (sbc op m) s :=
  ((unaware_accAlu s subCore op m).comp (unaware_addCost _ (decimalCost s.p))).congr fun _ _ _ => rfl

theorem unaware_compareReg (r : Reg) (op : Byte) (m : Src) : Unaware (compareReg r op m) s :=
  ⟨cycles op, fun c d q => by simp [compareReg]⟩

theorem unaware_modifyReg (f : Byte → Byte → Result) (r : Reg) (op : Byte) : Unaware (modifyReg f r op) s :=
  ⟨cycles op, fun c d q => by simp [modifyReg]⟩

theorem unaware_modifyMem (f : Byte → Byte → Result) (op : Byte) (m : Mode) : Unaware (modifyMem f op m) s :=
  ⟨cycles op, fun c d q => by simp [modifyMem]⟩

theorem unaware_bitTest (op : Byte) (m : Src) : Unaware (bitTest op m) s :=
  ⟨cycles op, fun c d q => by simp [bitTest]⟩

theorem unaware_maskTest (mask op : Byte) (m : Mode) : Unaware (maskTest mask op m) s :=
  ⟨cycles op, fun c d q => by simp [maskTest]⟩

theorem unaware_modifyBit (f : Byte → Byte) (op z : Byte) : Unaware (modifyBit f op z) s :=
  ⟨cycles op, fun c d q => by simp [modifyBit]⟩

theorem unaware_takeBranch (rel : Int) : Unaware (takeBranch rel) s := ⟨branchExtra, fun _ _ _ => rfl⟩

/-- A branch taken or not, after the part all branches share. -/
theorem unaware_branch (p : Prop) [Decidable p] (op : Byte) (len : Nat) (rel : Int) :
    Unaware (fun u => if p then takeBranch rel (clearT (start op len u)) else clearT (start op len u)) s :=
  .ite p ((unaware_idle s op len).comp (unaware_takeBranch _ rel)) (unaware_idle s op len)

theorem unaware_branchIf (f : Flag) (want : Bool) (op : Byte) (rel : Int) : Unaware (branchIf f want op rel) s :=
  (unaware_branch s (flag (clearT s).p f = want) op 2 rel).congr fun _ _ _ => rfl

theorem unaware_branchBit (n : Nat) (want : Bool) (op z : Byte) (rel : Int) : Unaware (branchBit n want op z rel) s :=
  (unaware_branch s ((zpRead z s).getLsbD n = want) op 3 rel).congr fun _ _ _ => rfl

theorem unaware_branchAlways (op : Byte) (rel : Int) : Unaware (branchAlways op rel) s :=
  ⟨cycles op, fun _ _ _ => rfl⟩

theorem unaware_callRel (op : Byte) (rel : Int) : Unaware (callRel op rel) s := ⟨cycles op, fun _ _ _ => rfl⟩

theorem unaware_callAbs (op : Byte) (addr : Word) : Unaware (callAbs op addr) s := ⟨cycles op, fun _ _ _ => rfl⟩

theorem unaware_jump (op : Byte) (addr : Word) : Unaware (jump op addr) s := ⟨cycles op, fun _ _ _ => rfl⟩

theorem unaware_jumpIndirect (op : Byte) (len : Nat) (ptr : Word) : Unaware (jumpIndirect op len ptr) s :=
  ⟨cycles op, fun c d q => by simp [jumpIndirect]⟩

theorem unaware_returnSub (op : Byte) : Unaware (returnSub op) s := ⟨cycles op, fun _ _ _ => rfl⟩

theorem unaware_softwareInterrupt (op : Byte) : Unaware (softwareInterrupt op) s :=
  ⟨cycles op, fun c d q => by simp [softwareInterrupt]⟩

theorem unaware_returnInterrupt (op : Byte) : Unaware (returnInterrupt op) s := ⟨cycles op, fun _ _ _ => rfl⟩

theorem unaware_blockTransfer (srcAt dstAt : Nat → Word) (len : Word) : Unaware (blockTransfer srcAt dstAt len) s :=
  ⟨blockBase + blockPerByte * len.toNat, fun c d q => by simp [blockTransfer]⟩

theorem unaware_toBanks (op mask : Byte) : Unaware (toBanks op mask) s :=
  ⟨cycles op, fun c d q => by simp [toBanks]⟩

theorem unaware_fromBanks (op mask : Byte) : Unaware (fromBanks op mask) s := ⟨cycles op, fun _ _ _ => rfl⟩

theorem unaware_portStore (port : Word) (op v : Byte) : Unaware (portStore port op v) s :=
  ⟨cycles op, fun _ _ _ => rfl⟩

theorem unaware_load (r : Reg) (op : Byte) (m : Src) : Unaware (load r op m) s :=
  ⟨cycles op, fun c d q => by simp [load]⟩

theorem unaware_store (v op : Byte) (m : Mode) : Unaware (store v op m) s :=
  ⟨cycles op, fun c d q => by simp [store]⟩

theorem unaware_transfer (src dst : Reg) (op : Byte) : Unaware (transfer src dst op) s :=
  ⟨cycles op, fun c d q => by simp [transfer]⟩

theorem unaware_toStack (op : Byte) : Unaware (fun u => clearT ((start op 1 u).set .s u.x)) s :=
  ⟨cycles op, fun _ _ _ => rfl⟩

theorem unaware_swap (r q : Reg) (op : Byte) : Unaware (swap r q op) s :=
  ⟨cycles op, fun c d q => by simp [swap]⟩

theorem unaware_clearReg (r : Reg) (op : Byte) : Unaware (clearReg r op) s :=
  ⟨cycles op, fun c d q => by simp [clearReg]⟩

theorem unaware_pushReg (r : Reg) (op : Byte) : Unaware (pushReg r op) s :=
  ⟨cycles op, fun c d q => by simp [pushReg]⟩

theorem unaware_pushP (op : Byte) : Unaware (pushP op) s := ⟨cycles op, fun _ _ _ => rfl⟩

theorem unaware_pullReg (r : Reg) (op : Byte) : Unaware (pullReg r op) s :=
  ⟨cycles op, fun c d q => by simp [pullReg, -pull_value]⟩

theorem unaware_pullP (op : Byte) : Unaware (pullP op) s := ⟨cycles op, fun _ _ _ => rfl⟩

theorem unaware_writeFlag (f : Flag) (v : Bool) (op : Byte) : Unaware (writeFlag f v op) s :=
  ⟨cycles op, fun _ _ _ => rfl⟩

theorem unaware_set (op : Byte) : Unaware (fun u => (start op 1 u).putFlag .t true) s :=
  ⟨cycles op, fun _ _ _ => rfl⟩

theorem unaware_undefinedOpcode (op : Byte) : Unaware (undefinedOpcode op) s := ⟨0, fun _ _ _ => rfl⟩

end SharedOperations

/-- From `s`, with its own counters and requests and with any others, the instruction is one unaware operation. -/
def ExecUnaware (i : Instr) (s : State) : Prop :=
  ∃ f, Unaware f s ∧ exec i s = .next (f s) ∧ ∀ c d q, exec i (withCounters c d q s) = .next (f (withCounters c d q s))

/-- No instruction is aware of the counters: each is one of the shared operations above. -/
theorem execUnaware (i : Instr) (s : State) : ExecUnaware i s := by
  cases i
  case adcZpix | adcZp | adcImm | adcAbs | adcZpiy | adcZpi | adcZpx | adcAbsy | adcAbsx =>
    exact ⟨_, unaware_adc s _ _, rfl, fun _ _ _ => rfl⟩
  case sbcZpix | sbcZp | sbcImm | sbcAbs | sbcZpiy | sbcZpi | sbcZpx | sbcAbsy | sbcAbsx =>
    exact ⟨_, unaware_sbc s _ _, rfl, fun _ _ _ => rfl⟩
  case andZpix | andZp | andImm | andAbs | andZpiy | andZpi | andZpx | andAbsy | andAbsx | oraZpix | oraZp | oraImm
      | oraAbs | oraZpiy | oraZpi | oraZpx | oraAbsy | oraAbsx | eorZpix | eorZp | eorImm | eorAbs | eorZpiy |
      eorZpi | eorZpx | eorAbsy | eorAbsx =>
    exact ⟨_, unaware_transferAlu s _ _ _, rfl, fun _ _ _ => rfl⟩
  case cmpZpix | cmpZp | cmpImm | cmpAbs | cmpZpiy | cmpZpi | cmpZpx | cmpAbsy | cmpAbsx | cpxImm | cpxZp | cpxAbs |
      cpyImm | cpyZp | cpyAbs =>
    exact ⟨_, unaware_compareReg s _ _ _, rfl, fun _ _ _ => rfl⟩
  case aslZp | aslAbs | aslZpx | aslAbsx | lsrZp | lsrAbs | lsrZpx | lsrAbsx | rolZp | rolAbs | rolZpx | rolAbsx |
      rorZp | rorAbs | rorZpx | rorAbsx | incZp | incAbs | incZpx | incAbsx | decZp | decAbs | decZpx | decAbsx |
      tsbZp | tsbAbs | trbZp | trbAbs =>
    exact ⟨_, unaware_modifyMem s _ _ _, rfl, fun _ _ _ => rfl⟩
  case aslAcc | lsrAcc | rolAcc | rorAcc | incAcc | decAcc | inx | iny | dex | dey =>
    exact ⟨_, unaware_modifyReg s _ _ _, rfl, fun _ _ _ => rfl⟩
  case bitZp | bitAbs | bitZpx | bitAbsx | bitImm =>
    exact ⟨_, unaware_bitTest s _ _, rfl, fun _ _ _ => rfl⟩
  case tstZp | tstAbs | tstZpx | tstAbsx =>
    exact ⟨_, unaware_maskTest s _ _ _, rfl, fun _ _ _ => rfl⟩
  case rmb0 | rmb1 | rmb2 | rmb3 | rmb4 | rmb5 | rmb6 | rmb7 | smb0 | smb1 | smb2 | smb3 | smb4 | smb5 | smb6 | smb7
      =>
    exact ⟨_, unaware_modifyBit s _ _ _, rfl, fun _ _ _ => rfl⟩
  case bpl | bmi | bvc | bvs | bcc | bcs | bne | beq =>
    exact ⟨_, unaware_branchIf s _ _ _ _, rfl, fun _ _ _ => rfl⟩
  case bra =>
    exact ⟨_, unaware_branchAlways s _ _, rfl, fun _ _ _ => rfl⟩
  case bbr0 | bbr1 | bbr2 | bbr3 | bbr4 | bbr5 | bbr6 | bbr7 | bbs0 | bbs1 | bbs2 | bbs3 | bbs4 | bbs5 | bbs6 | bbs7
      =>
    exact ⟨_, unaware_branchBit s _ _ _ _ _, rfl, fun _ _ _ => rfl⟩
  case bsr =>
    exact ⟨_, unaware_callRel s _ _, rfl, fun _ _ _ => rfl⟩
  case jmpAbs =>
    exact ⟨_, unaware_jump s _ _, rfl, fun _ _ _ => rfl⟩
  case jmpInd | jmpIndx =>
    exact ⟨_, unaware_jumpIndirect s _ _ _, rfl, fun _ _ _ => rfl⟩
  case jsr =>
    exact ⟨_, unaware_callAbs s _ _, rfl, fun _ _ _ => rfl⟩
  case rts =>
    exact ⟨_, unaware_returnSub s _, rfl, fun _ _ _ => rfl⟩
  case brk =>
    exact ⟨_, unaware_softwareInterrupt s _, rfl, fun _ _ _ => rfl⟩
  case rti =>
    exact ⟨_, unaware_returnInterrupt s _, rfl, fun _ _ _ => rfl⟩
  case tii | tdd | tin | tia | tai =>
    exact ⟨_, unaware_blockTransfer s _ _ _, rfl, fun _ _ _ => rfl⟩
  case tam =>
    exact ⟨_, unaware_toBanks s _ _, rfl, fun _ _ _ => rfl⟩
  case tma =>
    exact ⟨_, unaware_fromBanks s _ _, rfl, fun _ _ _ => rfl⟩
  case st0 | st1 | st2 =>
    exact ⟨_, unaware_portStore s _ _ _, rfl, fun _ _ _ => rfl⟩
  case ldaZpix | ldaZp | ldaImm | ldaAbs | ldaZpiy | ldaZpi | ldaZpx | ldaAbsy | ldaAbsx | ldxImm | ldxZp | ldxAbs |
      ldxZpy | ldxAbsy | ldyImm | ldyZp | ldyAbs | ldyZpx | ldyAbsx =>
    exact ⟨_, unaware_load s _ _ _, rfl, fun _ _ _ => rfl⟩
  case staZpix | staZp | staAbs | staZpiy | staZpi | staZpx | staAbsy | staAbsx | stxZp | stxAbs | stxZpy | styZp |
      styAbs | styZpx | stzZp | stzZpx | stzAbs | stzAbsx =>
    exact ⟨_, unaware_store s _ _ _, rfl, fun _ _ _ => rfl⟩
  case tax | txa | tay | tya | tsx =>
    exact ⟨_, unaware_transfer s _ _ _, rfl, fun _ _ _ => rfl⟩
  case txs =>
    exact ⟨_, unaware_toStack s _, rfl, fun _ _ _ => rfl⟩
  case sxy | sax | say =>
    exact ⟨_, unaware_swap s _ _ _, rfl, fun _ _ _ => rfl⟩
  case cla | clx | cly =>
    exact ⟨_, unaware_clearReg s _ _, rfl, fun _ _ _ => rfl⟩
  case pha | phx | phy =>
    exact ⟨_, unaware_pushReg s _ _, rfl, fun _ _ _ => rfl⟩
  case php =>
    exact ⟨_, unaware_pushP s _, rfl, fun _ _ _ => rfl⟩
  case pla | plx | ply =>
    exact ⟨_, unaware_pullReg s _ _, rfl, fun _ _ _ => rfl⟩
  case plp =>
    exact ⟨_, unaware_pullP s _, rfl, fun _ _ _ => rfl⟩
  case clc | sec | cli | sei | cld | sed | clv =>
    exact ⟨_, unaware_writeFlag s _ _ _, rfl, fun _ _ _ => rfl⟩
  case set =>
    exact ⟨_, unaware_set s _, rfl, fun _ _ _ => rfl⟩
  case undef0B | undef1B | undef2B | undef33 | undef3B | undef4B | undef5B | undef5C | undef63 | undef6B | undef7B |
      undef8B | undef9B | undefAB | undefBB | undefCB | undefDB | undefDC | undefE2 | undefEB | undefFB | undefFC =>
    exact ⟨_, unaware_undefinedOpcode s _, rfl, fun _ _ _ => rfl⟩
  case csl | csh | nop =>
    exact ⟨_, unaware_idle s _ _, rfl, fun _ _ _ => rfl⟩

/-- Settles O53: the instruction is one unaware operation, run from both states. -/
theorem countersDoNotInfluenceInstructions : Obligations.CountersDoNotInfluenceInstructions := by
  unfold Obligations.CountersDoNotInfluenceInstructions
  intro i s t c d q h
  obtain ⟨f, hf, hs, hc⟩ := execUnaware i s
  obtain rfl : f s = t := Host.Outcome.next.inj (hs.symm.trans h)
  exact (hc c d q).trans (congrArg _ (hf.eq c d q))

end Sys2Proof.Laws
end

section
/-! SUPPORT. The memory family (20_memory.md R71 to R75, R80 to R83): the byte a paged access reaches by the entry of its
slot, the byte of BASE_RAM the zero page and the stack reach, and what a read sees after a write to either. -/

namespace Sys2Proof.Laws

open Sys2Proof.Machine
open Sys2Proof.Config (baseRam)
open Sys2Proof.Claims (Pushed)

/-! ## Paged access (R71, R74, R75) -/

/-- Settles O10: both fields are read off the 16-bit address as numbers. -/
theorem slotAndOffsetSplitTheAddress : Obligations.SlotAndOffsetSplitTheAddress := by
  unfold Obligations.SlotAndOffsetSplitTheAddress
  intro addr
  have hslot : addr.toNat >>> 13 < 8 := by
    have := addr.isLt
    omega
  constructor
  · simp [slot, Nat.mod_eq_of_lt hslot]
  · simp [offset]

theorem readCell_io {addr : Word} {s : State} (h : s.pageR.get (slot addr) = .io) : readCell addr s = none := by
  simp [readCell, entryCell, h]

theorem readCell_buf {addr : Word} {s : State} {b : Nat} (h : s.pageR.get (slot addr) = .buf b) :
    readCell addr s = some (cellKey b (offset addr)) := by
  simp [readCell, entryCell, h]

theorem writeCell_io {addr : Word} {s : State} (h : s.pageW.get (slot addr) = .io) : writeCell addr s = none := by
  simp [writeCell, entryCell, h]

theorem writeCell_buf {addr : Word} {s : State} {b : Nat} (h : s.pageW.get (slot addr) = .buf b) :
    writeCell addr s = some (cellKey b (offset addr)) := by
  simp [writeCell, entryCell, h]

/-- At the same offset, two windows name the same byte exactly when they are the same window (R73). -/
theorem cellKey_left_inj {b c o : Nat} : cellKey b o = cellKey c o ↔ b = c := by
  simp only [cellKey, Config.windowSize]
  omega

/-- Read after write, at the same place or another. -/
theorem mem_read_write (m : Memory) (k j : Nat) (v : Byte) : (m.write k v).read j = if k = j then v else m.read j := by
  split
  · next h => rw [← h, Memory.read_write_same]
  · next h => exact Memory.read_write_other m v (Ne.symm h)

/-- What writing one buffer byte does: that byte and no other. -/
theorem writeMem_only (k : Nat) (v : Byte) (s : State) :
    ∃ m, writeMem k v s = { s with mem := m } ∧ m.read k = v ∧ ∀ j, j ≠ k → m.read j = s.mem.read j :=
  ⟨s.mem.write k v, rfl, Memory.read_write_same _ _ _, fun _ h => Memory.read_write_other _ v h⟩

/-- Settles O11: the read table's entry gives the cell, or none behind the I/O sentinel. -/
theorem pagedReadFollowsReadTable : Obligations.PagedReadFollowsReadTable := by
  unfold Obligations.PagedReadFollowsReadTable
  intro addr s
  exact ⟨fun h => ⟨memRead_io (readCell_io h), ioRead_calls addr s⟩, fun b h => memRead_buffer (readCell_buf h)⟩

/-- Settles O12: the write goes to the cell of the write table's entry; the later read looks at the cell of the read
table's, which is the same one exactly when the windows are. -/
theorem pagedWriteFollowsWriteTable : Obligations.PagedWriteFollowsWriteTable := by
  unfold Obligations.PagedWriteFollowsWriteTable
  intro addr v s
  refine ⟨fun h => memWrite_io (writeCell_io h), fun b hb => ?_⟩
  rw [memWrite_buffer (writeCell_buf hb)]
  refine ⟨writeMem_only _ v s, fun c hc => ?_⟩
  have hafter : readCell addr (writeMem (cellKey b (offset addr)) v s) = some (cellKey c (offset addr)) :=
    readCell_buf hc
  rw [memRead_buffer hafter, memRead_buffer (readCell_buf hc), writeMem_mem, mem_read_write]
  simp only [cellKey_left_inj]

/-! ## Zero page and stack (R80 to R83) -/

/-- A zero-page index names its byte modulo 256 (R80). -/
theorem zpCell_ofNat (z : Nat) : zpCell (BitVec.ofNat 8 z) = cellKey baseRam (z % 256) := by
  simp [zpCell]

/-- Settles O13: both accesses go by the zero-page cell alone. -/
theorem zeroPageIsAFixedBuffer : Obligations.ZeroPageIsAFixedBuffer := by
  unfold Obligations.ZeroPageIsAFixedBuffer
  intro z v s
  have hcell : zpCell (BitVec.ofNat 8 z) = baseRam * 8192 + z % 256 := zpCell_ofNat z
  constructor
  · rw [zpRead, hcell]
  · rw [zpWrite, hcell]
    exact writeMem_only _ v s

/-- The first 256 offsets of BASE_RAM are the zero page (R80, R83). -/
theorem cellKey_zeroPage {addr : Word} (h : offset addr < 0x100) :
    cellKey baseRam (offset addr) = zpCell (BitVec.ofNat 8 (offset addr)) := by
  rw [zpCell_ofNat, Nat.mod_eq_of_lt h]

/-- The next 256 are the stack page (R82, R83). -/
theorem cellKey_stackPage {addr : Word} {sp : Byte} (h : offset addr = 0x100 + sp.toNat) :
    cellKey baseRam (offset addr) = stackCell sp := by
  rw [h, stackCell]

/-- Settles O14: in a window of BASE_RAM the paged access reaches the zero page's and the stack's own cells. -/
theorem zeroPageAndStackAliasPagedAccess : Obligations.ZeroPageAndStackAliasPagedAccess := by
  unfold Obligations.ZeroPageAndStackAliasPagedAccess
  intro addr v s
  refine ⟨fun hr ho => ?_, fun hr ho => ?_, fun hw ho => ?_, fun hw ho => ?_⟩
  · have hcell : readCell addr (zpWrite (BitVec.ofNat 8 (offset addr)) v s) = some (cellKey baseRam (offset addr)) :=
      readCell_buf hr
    rw [memRead_buffer hcell, cellKey_zeroPage ho, zpWrite_mem, Memory.read_write_same]
  · have hcell : readCell addr (push v s) = some (cellKey baseRam (offset addr)) := readCell_buf hr
    rw [memRead_buffer hcell, cellKey_stackPage ho, push_mem, Memory.read_write_same]
  · rw [memWrite_buffer (writeCell_buf hw), cellKey_zeroPage ho, zpRead, writeMem_mem, Memory.read_write_same]
  · rw [memWrite_buffer (writeCell_buf hw), cellKey_stackPage ho, pull_value, writeMem_mem, writeMem_sp,
      Memory.read_write_same]

/-! ## Pushed bytes (R82) -/

/-- Fewer than 256 pushes never come back to the place of an earlier one (R82). -/
theorem stackCell_sub_ne {sp : Byte} {n k : Nat} (hn : n < k) (hk : k < 256) :
    stackCell (sp - BitVec.ofNat 8 n) ≠ stackCell (sp - BitVec.ofNat 8 k) := by
  rw [Ne, stackCell_inj]
  bv_omega

/-- Nothing pushed. -/
theorem pushed_nil (s : State) : Pushed s s [] := ⟨fun _ _ h => by simp at h, fun _ _ => rfl⟩

/-- One more byte pushed, within the 256 of the page. -/
theorem pushed_push {s t : State} {vs : List Byte} (h : Pushed s t vs) (v : Byte)
    (hsp : t.sp = s.sp - BitVec.ofNat 8 vs.length) (hlen : vs.length < 256) : Pushed s (push v t) (vs ++ [v]) := by
  obtain ⟨hbytes, hother⟩ := h
  simp only [Pushed, push_mem, hsp, mem_read_write, List.length_append, List.length_singleton]
  refine ⟨fun n w hw => ?_, fun k hk => ?_⟩
  · rcases Nat.lt_trichotomy n vs.length with hn | rfl | hn
    · rw [if_neg (stackCell_sub_ne hn hlen).symm]
      exact hbytes n w (by rwa [List.getElem?_append_left hn] at hw)
    · simpa using hw
    · rw [List.getElem?_eq_none (by simpa using hn)] at hw
      exact nomatch hw
  · rw [if_neg (hk vs.length (Nat.lt_succ_self _)).symm]
    exact hother k fun n hn => hk n (Nat.lt_succ_of_lt hn)

/-- A pushed word lies high byte first (R82; D17). -/
theorem pushed_push16 (w : Word) (s : State) : Pushed s (push16 w s) [hiByte w, loByte w] :=
  have hhigh : Pushed s (push (hiByte w) s) [hiByte w] := pushed_push (pushed_nil s) _ (by simp) (by simp)
  pushed_push hhigh (loByte w) rfl (by simp)

/-- A word whose bytes lie at the stack places of `sp` and `sp - 1` is pulled, with S back at `sp` (R82). -/
theorem pull16_of_cells {s : State} {sp : Byte} {w : Word} (hsp : s.sp = sp - 2)
    (hhi : s.mem.read (stackCell sp) = hiByte w) (hlo : s.mem.read (stackCell (sp - 1)) = loByte w) :
    (pull16 s).1 = w ∧ (pull16 s).2.sp = sp := by
  have hlow : s.sp + 1 = sp - 1 := by bv_omega
  have hhigh : sp - 1 + 1 = sp := by bv_omega
  simp only [pull16, pull_value, pull_mem, pull_sp, hlow, hhigh, hhi, hlo, mkWord_bytes, and_self]

theorem push16_sp (w : Word) (s : State) : (push16 w s).sp = s.sp - 2 := by
  simp only [push16, push_sp]
  bv_omega

/-- Pushing a word changes memory and S. -/
theorem push16_state (w : Word) (s : State) : push16 w s = { s with mem := (push16 w s).mem, sp := s.sp - 2 } := by
  rw [← push16_sp w s]
  rfl

/-- Settles O15: the two bytes lie where `Pushed` says, and the pull looks at those two places. -/
theorem pushedWordIsPulledBack : Obligations.PushedWordIsPulledBack := by
  unfold Obligations.PushedWordIsPulledBack
  intro w s
  have hpushed : Pushed s (push16 w s) [hiByte w, loByte w] := pushed_push16 w s
  obtain ⟨hbytes, -⟩ := id hpushed
  have hhi : (push16 w s).mem.read (stackCell s.sp) = hiByte w := by simpa using hbytes 0 (hiByte w) rfl
  have hlo : (push16 w s).mem.read (stackCell (s.sp - 1)) = loByte w := hbytes 1 (loByte w) rfl
  obtain ⟨hword, hsp⟩ := pull16_of_cells (push16_sp w s) hhi hlo
  exact ⟨hword, hsp, ⟨_, push16_state w s⟩, hpushed⟩

end Sys2Proof.Laws
end

section
/-! SUPPORT. The encoding family (30_encoding.md R110 to R141): which operand bytes stand for which operands, decoding as
the inverse of encoding, the undefined opcodes, and what each addressing mode gives and reads. -/

namespace Sys2Proof.Laws

open Sys2Proof.Machine
open Sys2Proof.Config (baseRam)
open Sys2Proof.Claims (undefinedForms)

/-! ## Operand bytes (R111, R112) -/

/-- `Operands F bs i`: the bytes `bs` after an opcode byte of form `F` stand for the operands of `i`. A displacement
counts when it fits its byte. -/
inductive Operands : Form → List Byte → Instr → Prop
  | imp (i : Instr) : Operands (.imp i) [] i
  | byte (f : Byte → Instr) (b : Byte) : Operands (.byte f) [b] (f b)
  | rel (f : Int → Instr) (r : Int) (h : relFits r = true) : Operands (.rel f) [relByte r] (f r)
  | word (f : Word → Instr) (w : Word) : Operands (.word f) (wordBytes w) (f w)
  | zpRel (f : Byte → Int → Instr) (z : Byte) (r : Int) (h : relFits r = true) :
      Operands (.zpRel f) [z, relByte r] (f z r)
  | immByte (f : Byte → Byte → Instr) (v z : Byte) : Operands (.immByte f) [v, z] (f v z)
  | immWord (f : Byte → Word → Instr) (v : Byte) (w : Word) : Operands (.immWord f) (v :: wordBytes w) (f v w)
  | block (f : Word → Word → Word → Instr) (s d l : Word) :
      Operands (.block f) (wordBytes s ++ wordBytes d ++ wordBytes l) (f s d l)

/-- Operand bytes are parsed to the operands they stand for, whatever follows. -/
theorem parse_of_operands {F : Form} {bs : List Byte} {i : Instr} (h : Operands F bs i) (op : Byte) (rest : List Byte) :
    F.parse op (bs ++ rest) = .ok (i, rest) := by
  cases h with
  | imp | byte | immByte => rfl
  | rel f r hr | zpRel f z r hr => simp [Form.parse, relByte_toInt r hr]
  | word | immWord | block => simp [Form.parse, wordBytes, mkWord_bytes]

/-- What is parsed stands in the bytes read. -/
theorem operands_of_parse {op : Byte} {F : Form} {bytes rest : List Byte} {i : Instr}
    (h : F.parse op bytes = .ok (i, rest)) : ∃ bs, Operands F bs i ∧ bytes = bs ++ rest := by
  unfold Form.parse at h
  split at h
  all_goals cases h
  · exact ⟨_, .imp _, rfl⟩
  · exact ⟨_, .byte _ _, rfl⟩
  · exact ⟨_, .rel _ _ (relFits_toInt _), by simp [relByte_of_toInt]⟩
  · exact ⟨_, .word _ _, by simp [wordBytes_mkWord]⟩
  · exact ⟨_, .zpRel _ _ _ (relFits_toInt _), by simp [relByte_of_toInt]⟩
  · exact ⟨_, .immByte _ _ _, rfl⟩
  · exact ⟨_, .immWord _ _ _, by simp [wordBytes_mkWord]⟩
  · exact ⟨_, .block _ _ _ _, by simp [wordBytes_mkWord]⟩

/-! ## Decoding and encoding (R113 to R115, R141) -/

/-- The encoder writes an opcode byte and operand bytes of that byte's form: every well-formed instruction has its place
in the opcode map. -/
theorem encode_operands (i : Instr) (h : i.wellFormed = true) :
    ∃ op bs, encode i = op :: bs ∧ Operands (formOf op) bs i := by
  cases i <;> refine ⟨_, _, rfl, ?_⟩ <;> constructor
  -- What is left is that each displacement fits.
  all_goals exact h

/-- What an entry of the opcode map makes from operand bytes is well formed, and encodes to the opcode byte and these. -/
theorem encode_of_operands {op : Byte} {F : Form} {bs : List Byte} {i : Instr} (hF : FormOk op F)
    (h : Operands F bs i) : i.wellFormed = true ∧ encode i = op :: bs := by
  cases h with
  | imp => cases hF with | imp hw he => exact ⟨hw, he⟩
  | byte f b => cases hF with | byte hw he => exact ⟨hw b, he b⟩
  | rel f r hr => cases hF with | rel hw he => exact ⟨(hw r).trans hr, he r⟩
  | word f w => cases hF with | word hw he => exact ⟨hw w, he w⟩
  | zpRel f z r hr => cases hF with | zpRel hw he => exact ⟨(hw z r).trans hr, he z r⟩
  | immByte f v z => cases hF with | immByte hw he => exact ⟨hw v z, he v z⟩
  | immWord f v w => cases hF with | immWord hw he => exact ⟨hw v w, he v w⟩
  | block f s d l => cases hF with | block hw he => exact ⟨hw s d l, he s d l⟩

/-- Settles O4: the encoder's operand bytes are parsed back under the opcode byte's own form. -/
theorem decodeOfEncode : Obligations.DecodeOfEncode := by
  unfold Obligations.DecodeOfEncode
  intro i rest hwf
  obtain ⟨op, bs, henc, hops⟩ := encode_operands i hwf
  rw [henc]
  exact parse_of_operands hops op rest

/-- Settles O5: what is parsed stands in the bytes read, and the map's entry encodes to those. -/
theorem encodeOfDecode : Obligations.EncodeOfDecode := by
  unfold Obligations.EncodeOfDecode
  intro bytes rest i h
  cases bytes with
  | nil => exact nomatch h
  | cons op bytes =>
    obtain ⟨bs, hops, rfl⟩ := operands_of_parse h
    obtain ⟨hwf, henc⟩ := encode_of_operands (formOk op) hops
    exact ⟨hwf, by rw [henc, List.cons_append]⟩

/-- The bytes an instruction encodes to, with what follows, decode to it. -/
theorem decode_of_encode_eq {i : Instr} {bytes rest : List Byte} (hwf : i.wellFormed = true)
    (henc : encode i ++ rest = bytes) : decode bytes = .ok (i, rest) :=
  henc ▸ decodeOfEncode i rest hwf

/-- Settles O3: each word is the encoding of its instruction. -/
theorem knownWordsDecode : Obligations.KnownWordsDecode := by
  unfold Obligations.KnownWordsDecode
  and_intros
  all_goals exact decode_of_encode_eq (by decide) (by decide)

/-! ## The undefined opcodes (R140, R385, R407) -/

/-- An undefined instruction is well formed, and its encoding is its opcode byte. -/
theorem encode_undefined : ∀ f ∈ undefinedForms, f.i.wellFormed = true ∧ encode f.i = [f.op] := by decide

/-- An undefined instruction is the halt handler with its opcode byte (D5). -/
theorem exec_undefined (s : State) : ∀ f ∈ undefinedForms, exec f.i s = .next (halt f.op s) := by
  intro f hf
  fin_cases hf <;> rfl

/-- A defined instruction does not halt: it charges cycles, and a halt charges none. -/
theorem exec_status_of_defined {i : Instr} {s t : State} (hd : ∀ f ∈ undefinedForms, i ≠ f.i)
    (h : exec i s = .next t) : t.status = s.status := by
  rcases exec_status h with hs | ⟨op, -, rfl⟩
  · exact hs
  · obtain ⟨n, hn, hcharged⟩ := charged_of_effect (exec_effect i s _ h) hd
    have hscan : s.scanCycles = s.scanCycles + n := hcharged.scanCycles
    omega

/-- Settles O6: each undefined byte is an encoding, run by the halt handler; no defined instruction halts. -/
theorem undefinedOpcodesHalt : Obligations.UndefinedOpcodesHalt := by
  unfold Obligations.UndefinedOpcodesHalt
  refine ⟨fun f hf s rest => ?_, fun i s t => exec_status_of_defined⟩
  obtain ⟨hwf, henc⟩ := encode_undefined f hf
  exact ⟨decode_of_encode_eq hwf (by rw [henc, List.singleton_append]), exec_undefined s f hf⟩

/-! ## Addressing modes (R120 to R129, R136) -/

/-- A zero-page read goes to the byte of BASE_RAM at the index mod 256 (R80). -/
theorem zpRead_ofNat (n : Nat) (s : State) :
    zpRead (BitVec.ofNat 8 n) s = s.mem.read (baseRam * 8192 + n % 256) :=
  congrArg s.mem.read (zpCell_ofNat n)

/-- The pointer at zero-page index `n` mod 256, as a number; its high byte is at the next index mod 256 (R81, D34). -/
theorem zpRead16_toNat_of_index {z : Byte} {n : Nat} (h : z = BitVec.ofNat 8 n) (s : State) : (zpRead16 z s).toNat =
    (s.mem.read (baseRam * 8192 + n % 256)).toNat + 256 * (s.mem.read (baseRam * 8192 + (n + 1) % 256)).toNat := by
  have hnext : z + 1 = BitVec.ofNat 8 (n + 1) := by rw [h]; exact (BitVec.ofNat_add n 1).symm
  rw [zpRead16_toNat, hnext, h, zpRead_ofNat, zpRead_ofNat]

/-- An index added to an address goes around at 64 KB (R125, R126, R129). -/
theorem add_zext_toNat (w : Word) (b : Byte) : (w + zext b).toNat = (w.toNat + b.toNat) % 65536 := by
  have hb : (zext b).toNat = b.toNat := BitVec.toNat_setWidth_of_le (by decide)
  rw [BitVec.toNat_add, hb]

/-- Reading a location changes nothing unless it is a logical address behind the I/O sentinel (R74, R87). -/
theorem readLoc_state_of_not_io {l : Loc} {s : State}
    (h : ∀ addr, l = .log addr → s.pageR.get (slot addr) ≠ .io) : (readLoc l s).2 = s := by
  cases l with
  | zp z => rfl
  | log addr =>
    cases he : s.pageR.get (slot addr) with
    | io => exact absurd he (h addr rfl)
    | buf b => rw [readLoc, memRead_buffer (readCell_buf he)]

/-- Settles O16: each mode's sum is taken as a number; an operand is the immediate or one `readLoc`. -/
theorem operandReadOnlyCallsIo : Obligations.OperandReadOnlyCallsIo := by
  unfold Obligations.OperandReadOnlyCallsIo
  refine ⟨fun z addr s => ?_, fun v s => ⟨rfl, rfl⟩, fun m s => ⟨rfl, fun z hz => ?_, fun addr ha => ?_⟩,
    fun m s => ⟨operand_state m s, fun h => ?_⟩⟩
  · have hptr := zpRead16_toNat_of_index (z := z) (n := z.toNat) (by bv_omega) s
    have hptrx := zpRead16_toNat_of_index (z := z + s.x) (n := z.toNat + s.x.toNat) (by bv_omega) s
    have hptry := add_zext_toNat (zpRead16 z s) s.y
    rw [hptr] at hptry
    exact ⟨⟨rfl, _, rfl, rfl⟩, ⟨rfl, _, rfl, BitVec.toNat_add ..⟩, ⟨rfl, _, rfl, BitVec.toNat_add ..⟩,
      ⟨rfl, _, rfl, rfl⟩, ⟨rfl, _, rfl, add_zext_toNat ..⟩, ⟨rfl, _, rfl, add_zext_toNat ..⟩,
      ⟨rfl, _, rfl, hptr⟩, ⟨rfl, _, rfl, hptrx⟩, ⟨rfl, _, rfl, hptry⟩⟩
  · rw [operand, hz, readLoc]; rfl
  · rw [operand, ha, readLoc]
  · cases m with
    | imm v => rfl
    | mem mode => exact readLoc_state_of_not_io fun addr => h mode addr rfl

end Sys2Proof.Laws
end

section
/-! SUPPORT. Arithmetic, logic and compare (40_arith_logic.md R150 to R163): the flags each computation leaves, decimal
digits as numbers, what the shared operations do to the state, and which operation each form of an instruction runs. -/

namespace Sys2Proof.Laws

open Sys2Proof.Machine
open Sys2Proof.Config (tmodeExtra)
open Sys2Proof.Claims

/-! ## Flags (R14, R150, R151, R163) -/

/-- What `setNZ` leaves, as the statements say it (R14). -/
theorem setNZ_flags (v p : Byte) :
    NZ v (setNZ v p) ∧ flag (setNZ v p) .t = false ∧ Keeps p (setNZ v p) [.c, .i, .d, .b, .v] := by
  obtain ⟨hz, hn, ht, hkeeps⟩ := setNZWritesZeroAndNegative v p
  exact ⟨⟨hz, hn⟩, ht, hkeeps⟩

/-- Writing one flag keeps the others. -/
theorem keeps_setFlag {f : Flag} {fs : List Flag} (h : f ∉ fs) (p : Byte) (v : Bool) : Keeps p (setFlag p f v) fs :=
  fun g hg => by rw [flag_setFlag, if_neg (ne_of_mem_of_not_mem hg h)]

theorem keeps_trans {p q r : Byte} {fs : List Flag} (h : Keeps p q fs) (h' : Keeps q r fs) : Keeps p r fs :=
  fun f hf => (h' f hf).trans (h f hf)

/-- `setNZ` keeps what was kept before it, of the flags it does not write. -/
theorem keeps_setNZ {p q : Byte} {fs : List Flag} (h : Keeps p q fs) (hfs : fs ⊆ [.c, .i, .d, .b, .v]) (v : Byte) :
    Keeps p (setNZ v q) fs := by
  obtain ⟨-, -, hkeeps⟩ := setNZ_flags v q
  exact keeps_trans h fun f hf => hkeeps f (hfs hf)

/-- `setNZ` makes equal what agrees outside Z, N and T, which it writes. -/
theorem setNZ_congr {p q : Byte} (v : Byte) (h : Keeps p q [.c, .i, .d, .b, .v]) : setNZ v q = setNZ v p := by
  apply eq_of_flags
  intro f
  rw [flag_setNZ, flag_setNZ]
  cases f with
  | z | n | t => rfl
  | c | i | d | b | v => exact h _ (by decide)

/-- The flags ADC and SBC leave for a result byte, a carry and an overflow: B, D and I are kept, T is cleared (R150,
R151). -/
structure ArithFlags (r : Byte) (carry overflow : Bool) (p p' : Byte) : Prop where
  carry : flag p' .c = carry
  overflow : flag p' .v = overflow
  result : NZ r p'
  transfer : flag p' .t = false
  kept : Keeps p p' [.i, .d, .b]

theorem arithFlags_setNZ (r : Byte) (carry overflow : Bool) (p : Byte) :
    ArithFlags r carry overflow p (setNZ r (setFlag (setFlag p .c carry) .v overflow)) := by
  obtain ⟨hresult, ht, -⟩ := setNZ_flags r (setFlag (setFlag p .c carry) .v overflow)
  have hkept : Keeps p (setFlag (setFlag p .c carry) .v overflow) [.i, .d, .b] :=
    keeps_trans (keeps_setFlag (by decide) p carry) (keeps_setFlag (by decide) _ overflow)
  exact ⟨by simp [flag_setNZ], by simp [flag_setNZ], hresult, ht, keeps_setNZ hkept (by decide) r⟩

/-- C, Z and N after a compare are those of the order and the difference; the rest but T is kept (R163). -/
theorem compareFlags_spec (r b p : Byte) :
    flag (compareFlags r b p) .c = decide (b.toNat ≤ r.toNat) ∧ flag (compareFlags r b p) .z = decide (r = b) ∧
      flag (compareFlags r b p) .n = (r - b).getLsbD 7 ∧ flag (compareFlags r b p) .t = false ∧
      Keeps p (compareFlags r b p) [.i, .d, .b, .v] := by
  obtain ⟨⟨hz, hn⟩, ht, -⟩ := setNZ_flags (r - b) (setFlag p .c (decide (b.toNat ≤ r.toNat)))
  have hkept : Keeps p (compareFlags r b p) [.i, .d, .b, .v] :=
    keeps_setNZ (keeps_setFlag (by decide) p _) (by decide) (r - b)
  refine ⟨by simp [compareFlags, flag_setNZ], ?_, hn, ht, hkept⟩
  rw [compareFlags, hz, decide_eq_decide, sub_eq_zero]

/-! ## Decimal digits (R15) -/

/-- A byte of two decimal digits is valid BCD of their number. -/
theorem bcd_of_digits {b : Byte} {x₁ x₀ : Nat} (h₁ : x₁ ≤ 9) (h₀ : x₀ ≤ 9) (h : b.toNat = 16 * x₁ + x₀) :
    validBcd b = true ∧ bcdDecode b = 10 * x₁ + x₀ := by
  have hhigh : b.toNat / 16 = x₁ := by omega
  have hlow : b.toNat % 16 = x₀ := by omega
  simp [validBcd, bcdDecode, hhigh, hlow, h₁, h₀]

theorem bcdEncode_toNat (n : Nat) : (bcdEncode n).toNat = 16 * ((n % 100) / 10) + n % 10 := by
  rw [bcdEncode, BitVec.toNat_ofNat]
  omega

/-- Encoding keeps the last two decimal digits, each in its own half of the byte. -/
theorem bcdEncode_digits (n : Nat) :
    10 * ((bcdEncode n).toNat / 16) + (bcdEncode n).toNat % 16 = n % 100 ∧ (bcdEncode n).toNat % 16 ≤ 9 := by
  rw [bcdEncode_toNat]
  omega

/-! ## The computations of ADC and SBC (R150, R151, R157) -/

theorem addBinary_flags (a b p : Byte) :
    ArithFlags (BitVec.ofNat 8 (a.toNat + b.toNat + (flag p .c).toNat))
      (decide (255 < a.toNat + b.toNat + (flag p .c).toNat))
      (decide (127 < a.toInt + b.toInt + (flag p .c).toNat) || decide (a.toInt + b.toInt + (flag p .c).toNat < -128))
      p (addBinary a b p).p := arithFlags_setNZ _ _ _ p

theorem addDecimal_flags (a b p : Byte) :
    ArithFlags (addDecimal a b p).val (addDecimalValue a b (flag p .c)).2 false p (addDecimal a b p).p :=
  arithFlags_setNZ _ _ _ p

theorem subDecimal_flags (a b p : Byte) :
    ArithFlags (subDecimal a b p).val (subDecimalValue a b (!flag p .c)).2 false p (subDecimal a b p).p :=
  arithFlags_setNZ _ _ _ p

/-- The borrow in is `1 - C` (R151). -/
theorem borrow_eq (c : Bool) : ((!c).toNat : Int) = 1 - c.toNat := by cases c <;> rfl

/-- Binary SBC with the borrow written as `1 - C`. -/
theorem subBinary_spec (a b p : Byte) :
    let u : Int := (a.toNat : Int) - b.toNat - (1 - (flag p .c).toNat)
    let d : Int := a.toInt - b.toInt - (1 - (flag p .c).toNat)
    (subBinary a b p).val = BitVec.ofInt 8 u ∧
      ArithFlags (BitVec.ofInt 8 u) (decide (0 ≤ u)) (decide (127 < d) || decide (d < -128)) p (subBinary a b p).p := by
  rw [← borrow_eq]
  exact ⟨rfl, arithFlags_setNZ _ _ _ p⟩

/-- Decimal ADC on two bytes of decimal digits. -/
theorem addDecimalValue_of_digits {a b : Byte} {x₁ x₀ y₁ y₀ : Nat} (hx₁ : x₁ ≤ 9) (hx₀ : x₀ ≤ 9) (hy₁ : y₁ ≤ 9)
    (hy₀ : y₀ ≤ 9) (ha : a.toNat = 16 * x₁ + x₀) (hb : b.toNat = 16 * y₁ + y₀) (c : Bool) :
    let t := (10 * x₁ + x₀) + (10 * y₁ + y₀) + c.toNat
    addDecimalValue a b c = (bcdEncode t, decide (99 < t)) := by
  obtain ⟨hva, hda⟩ := bcd_of_digits hx₁ hx₀ ha
  obtain ⟨hvb, hdb⟩ := bcd_of_digits hy₁ hy₀ hb
  simp [addDecimalValue, hva, hvb, hda, hdb]

/-- Decimal SBC on two bytes of decimal digits. -/
theorem subDecimalValue_of_digits {a b : Byte} {x₁ x₀ y₁ y₀ : Nat} (hx₁ : x₁ ≤ 9) (hx₀ : x₀ ≤ 9) (hy₁ : y₁ ≤ 9)
    (hy₀ : y₀ ≤ 9) (ha : a.toNat = 16 * x₁ + x₀) (hb : b.toNat = 16 * y₁ + y₀) (c : Bool) :
    let t : Int := ((10 * x₁ + x₀ : Nat) : Int) - (10 * y₁ + y₀ : Nat) - (1 - c.toNat)
    subDecimalValue a b (!c) = (bcdEncode (t % 100).toNat, decide (0 ≤ t)) := by
  obtain ⟨hva, hda⟩ := bcd_of_digits hx₁ hx₀ ha
  obtain ⟨hvb, hdb⟩ := bcd_of_digits hy₁ hy₀ hb
  rw [← borrow_eq, subDecimalValue, hva, hvb, hda, hdb]
  rfl

/-! ## What the shared operations do to the state -/

/-- `s` past an instruction that read its operand once and left the result byte in A and the new P. -/
def aluState (cost : Nat) (m : Src) (r : Result) (s : State) : State :=
  { advance m.length cost (operand m s).2 with a := r.val, p := r.p }

/-- The spec lemma of `accAlu`: the computation is on A and P as they were at the start. -/
theorem accAlu_eq (f : Byte → Byte → Byte → Result) (op : Byte) (m : Src) (s : State) :
    accAlu f op m s = aluState (cycles op) m (f s.a (operand m s).1 s.p) s := by
  simp only [accAlu, operand_start, start_a, start_p, operand_a, operand_p]
  rfl

theorem transferAlu_of_clear {s : State} (ht : flag s.p .t = false) (f : Byte → Byte → Byte → Result) (op : Byte)
    (m : Src) : transferAlu f op m s = accAlu f op m s := by
  simp [transferAlu, ht]

theorem transferAlu_of_set {s : State} (ht : flag s.p .t = true) (f : Byte → Byte → Byte → Result) (op : Byte)
    (m : Src) : transferAlu f op m s = zpAlu f op m s := by
  simp [transferAlu, ht]

theorem addCost_aluState (n cost : Nat) (m : Src) (r : Result) (s : State) :
    addCost n (aluState cost m r s) = aluState (cost + n) m r s := by
  simp [addCost, aluState, advance, Nat.add_assoc]

theorem addCore_of_binary {p : Byte} (hd : flag p .d = false) (a b : Byte) : addCore a b p = addBinary a b p := by
  simp [addCore, hd]

theorem addCore_of_decimal {p : Byte} (hd : flag p .d = true) (a b : Byte) : addCore a b p = addDecimal a b p := by
  simp [addCore, hd]

theorem subCore_of_binary {p : Byte} (hd : flag p .d = false) (a b : Byte) : subCore a b p = subBinary a b p := by
  simp [subCore, hd]

theorem subCore_of_decimal {p : Byte} (hd : flag p .d = true) (a b : Byte) : subCore a b p = subDecimal a b p := by
  simp [subCore, hd]

theorem decimalCost_of_binary {p : Byte} (hd : flag p .d = false) : decimalCost p = 0 := by simp [decimalCost, hd]

theorem decimalCost_of_decimal {p : Byte} (hd : flag p .d = true) : decimalCost p = 1 := by
  simp [decimalCost, hd, Config.decimalExtra]

/-- ADC outside Transfer mode. -/
theorem adc_eq {s : State} (ht : flag s.p .t = false) (op : Byte) (m : Src) :
    adc op m s = aluState (cycles op + decimalCost s.p) m (addCore s.a (operand m s).1 s.p) s := by
  rw [adc, transferAlu_of_clear ht, accAlu_eq, addCost_aluState]

theorem sbc_eq (op : Byte) (m : Src) (s : State) :
    sbc op m s = aluState (cycles op + decimalCost s.p) m (subCore s.a (operand m s).1 s.p) s := by
  rw [sbc, accAlu_eq, addCost_aluState]

/-- Moving past the instruction changes no register but PC. -/
theorem get_start (op : Byte) (len : Nat) (s : State) (r : Reg) : (start op len s).get r = s.get r := by
  cases r <;> rfl

/-- Reading an operand changes no register. -/
theorem get_operand (m : Src) (s : State) (r : Reg) : (operand m s).2.get r = s.get r := by
  cases r with
  | a => exact operand_a m s
  | x => exact operand_x m s
  | y => exact operand_y m s
  | s => exact operand_sp m s

/-- The spec lemma of `compareReg`: only P is written. -/
theorem compareReg_eq (r : Reg) (op : Byte) (m : Src) (s : State) :
    compareReg r op m s = { advance m.length (cycles op) (operand m s).2 with
      p := compareFlags (s.get r) (operand m s).1 s.p } := by
  simp only [compareReg, operand_start, get_start, get_operand, start_p, operand_p]
  rfl

/-! ## The forms (R113, R150 to R162): each runs the shared operation with its own opcode byte and operand -/

section Forms

variable (v z : Byte) (addr : Word)

theorem exec_adcForms : ∀ f ∈ adcForms v z addr, ∀ s, exec f.i s = .next (adc f.op f.src s) := by
  intro f hf s
  fin_cases hf <;> rfl

theorem exec_sbcForms : ∀ f ∈ sbcForms v z addr, ∀ s, exec f.i s = .next (sbc f.op f.src s) := by
  intro f hf s
  fin_cases hf <;> rfl

theorem exec_andForms : ∀ f ∈ andForms v z addr,
    Opcode f.i f.op ∧ ∀ s, exec f.i s = .next (transferAlu andCore f.op f.src s) := by
  intro f hf
  fin_cases hf <;> exact ⟨rfl, fun _ => rfl⟩

theorem exec_orForms : ∀ f ∈ orForms v z addr,
    Opcode f.i f.op ∧ ∀ s, exec f.i s = .next (transferAlu orCore f.op f.src s) := by
  intro f hf
  fin_cases hf <;> exact ⟨rfl, fun _ => rfl⟩

theorem exec_eorForms : ∀ f ∈ eorForms v z addr,
    Opcode f.i f.op ∧ ∀ s, exec f.i s = .next (transferAlu xorCore f.op f.src s) := by
  intro f hf
  fin_cases hf <;> exact ⟨rfl, fun _ => rfl⟩

theorem exec_cmpForms : ∀ f ∈ cmpForms v z addr,
    Opcode f.i f.op ∧ ∀ s, exec f.i s = .next (compareReg .a f.op f.src s) := by
  intro f hf
  fin_cases hf <;> exact ⟨rfl, fun _ => rfl⟩

theorem exec_cpxForms : ∀ f ∈ cpxForms v z addr,
    Opcode f.i f.op ∧ ∀ s, exec f.i s = .next (compareReg .x f.op f.src s) := by
  intro f hf
  fin_cases hf <;> exact ⟨rfl, fun _ => rfl⟩

theorem exec_cpyForms : ∀ f ∈ cpyForms v z addr,
    Opcode f.i f.op ∧ ∀ s, exec f.i s = .next (compareReg .y f.op f.src s) := by
  intro f hf
  fin_cases hf <;> exact ⟨rfl, fun _ => rfl⟩

end Forms

/-! ## ADC and SBC -/

/-- Settles O19: binary ADC is `addBinary` on A. -/
theorem adcAddsInBinary : Obligations.AdcAddsInBinary := by
  unfold Obligations.AdcAddsInBinary
  intro v z addr f hf s hd ht
  obtain ⟨hcarry, hoverflow, hresult, htransfer, hkept⟩ := addBinary_flags s.a (operand f.src s).1 s.p
  refine ⟨(addBinary s.a (operand f.src s).1 s.p).p, ?_, hcarry, ?_, hresult, htransfer, hkept⟩
  · rw [exec_adcForms v z addr f hf, adc_eq ht, addCore_of_binary hd, decimalCost_of_binary hd]
    rfl
  · rw [hoverflow, Bool.or_eq_true, decide_eq_true_iff, decide_eq_true_iff]

/-- Settles O20: decimal ADC is `addDecimal` on A. -/
theorem adcAddsInDecimal : Obligations.AdcAddsInDecimal := by
  unfold Obligations.AdcAddsInDecimal
  intro v z addr f hf s hd ht
  obtain ⟨hcarry, hoverflow, hresult, htransfer, hkept⟩ := addDecimal_flags s.a (operand f.src s).1 s.p
  refine ⟨(addDecimal s.a (operand f.src s).1 s.p).p, (addDecimal s.a (operand f.src s).1 s.p).val, ?_,
    fun x₁ x₀ y₁ y₀ hx₁ hx₀ hy₁ hy₀ ha hb => ?_, fun hinvalid => ?_, hoverflow, hresult, htransfer, hkept⟩
  · rw [exec_adcForms v z addr f hf, adc_eq ht, addCore_of_decimal hd, decimalCost_of_decimal hd]
    rfl
  · have hvalue := addDecimalValue_of_digits hx₁ hx₀ hy₁ hy₀ ha hb (flag s.p .c)
    obtain ⟨hnumber, hlow⟩ := bcdEncode_digits ((10 * x₁ + x₀) + (10 * y₁ + y₀) + (flag s.p .c).toNat)
    rw [hcarry, addDecimal, hvalue]
    exact ⟨hnumber, hlow, rfl⟩
  · rw [hcarry, addDecimal, addDecimalValue, hinvalid]
    rfl

/-- Settles O21: binary SBC is `subBinary` on A, and SBC never looks at T. -/
theorem sbcSubtractsInBinary : Obligations.SbcSubtractsInBinary := by
  unfold Obligations.SbcSubtractsInBinary
  intro v z addr f hf s hd
  obtain ⟨hval, hcarry, hoverflow, hresult, htransfer, hkept⟩ := subBinary_spec s.a (operand f.src s).1 s.p
  refine ⟨(subBinary s.a (operand f.src s).1 s.p).p, ?_, hcarry, ?_, hresult, htransfer, hkept⟩
  · rw [exec_sbcForms v z addr f hf, sbc_eq, subCore_of_binary hd, decimalCost_of_binary hd, aluState, hval]
    rfl
  · rw [hoverflow, Bool.or_eq_true, decide_eq_true_iff, decide_eq_true_iff]

/-- Settles O22: decimal SBC is `subDecimal` on A. -/
theorem sbcSubtractsInDecimal : Obligations.SbcSubtractsInDecimal := by
  unfold Obligations.SbcSubtractsInDecimal
  intro v z addr f hf s hd
  obtain ⟨hcarry, hoverflow, hresult, htransfer, hkept⟩ := subDecimal_flags s.a (operand f.src s).1 s.p
  refine ⟨(subDecimal s.a (operand f.src s).1 s.p).p, (subDecimal s.a (operand f.src s).1 s.p).val, ?_,
    fun x₁ x₀ y₁ y₀ hx₁ hx₀ hy₁ hy₀ ha hb => ?_, fun hinvalid => ?_, hoverflow, hresult, htransfer, hkept⟩
  · rw [exec_sbcForms v z addr f hf, sbc_eq, subCore_of_decimal hd, decimalCost_of_decimal hd]
    rfl
  · have hvalue := subDecimalValue_of_digits hx₁ hx₀ hy₁ hy₀ ha hb (flag s.p .c)
    intro t
    obtain ⟨hnumber, hlow⟩ := bcdEncode_digits (t % 100).toNat
    rw [hcarry, subDecimal, hvalue]
    refine ⟨?_, hlow, rfl⟩
    rw [hnumber]
    omega
  · rw [hcarry, subDecimal, subDecimalValue, hinvalid]
    rfl

/-! ## Transfer mode (R152) -/

/-- `s` with T clear and, in A, the zero-page byte at X. -/
def withZpByteInA (s : State) : State := { s with a := zpRead s.x s, p := setFlag s.p .t false }

/-- From `s`, what leads to `u` with the zero-page byte at X in A leads to `t` in Transfer mode. -/
structure TransferStep (s t u : State) : Prop where
  state : t = { u with a := s.a, mem := t.mem, scanCycles := u.scanCycles + 3, timerDelta := u.timerDelta + 3 }
  written : t.mem.read (zpCell s.x) = u.a
  other : ∀ k, k ≠ zpCell s.x → t.mem.read k = s.mem.read k

/-- The computation does not look at T. -/
def IgnoresT (f : Byte → Byte → Byte → Result) : Prop := ∀ a b p, f a b (setFlag p .t false) = f a b p

/-- Clearing T before `setNZ` makes no difference. -/
theorem setNZ_setFlag_t (v p : Byte) : setNZ v (setFlag p .t false) = setNZ v p :=
  setNZ_congr v (keeps_setFlag (by decide) p false)

/-- Nor does it with C and V written in between. -/
theorem setNZ_setFlag_cv_t (v : Byte) (carry overflow : Bool) (p : Byte) :
    setNZ v (setFlag (setFlag (setFlag p .t false) .c carry) .v overflow) =
      setNZ v (setFlag (setFlag p .c carry) .v overflow) :=
  setNZ_congr v fun f hf => by
    have ht : f ≠ .t := ne_of_mem_of_not_mem hf (by decide)
    simp [ht]

theorem andCore_ignoresT : IgnoresT andCore := fun a b p => by rw [andCore, setNZ_setFlag_t]; rfl
theorem orCore_ignoresT : IgnoresT orCore := fun a b p => by rw [orCore, setNZ_setFlag_t]; rfl
theorem xorCore_ignoresT : IgnoresT xorCore := fun a b p => by rw [xorCore, setNZ_setFlag_t]; rfl

theorem addCore_ignoresT : IgnoresT addCore := fun a b p => by
  simp [addCore, addBinary, addDecimal, setNZ_setFlag_cv_t]

theorem operand_withZpByteInA (m : Src) (s : State) :
    operand m (withZpByteInA s) = ((operand m s).1, withZpByteInA (operand m s).2) := by
  have hview : SameView s (withZpByteInA s) := ⟨rfl, rfl, rfl, rfl, rfl⟩
  rw [operand_view hview rfl rfl m, operand_state m s]
  rfl

/-- The spec lemma of `zpAlu`: the computation is on the zero-page byte at X, and the result goes there. -/
theorem zpAlu_eq (f : Byte → Byte → Byte → Result) (op : Byte) (m : Src) (s : State) :
    let r := f (zpRead s.x s) (operand m s).1 s.p
    zpAlu f op m s =
      addCost tmodeExtra (zpWrite s.x r.val ((advance m.length (cycles op) (operand m s).2).withP r.p)) := by
  simp only [zpAlu, operand_start, start_x, start_p, operand_x, operand_p, zpRead, start_mem, operand_mem]
  rfl

/-- Transfer mode against the same operation on A. -/
theorem transferStep_transferAlu {f : Byte → Byte → Byte → Result} (hf : IgnoresT f) {s : State}
    (ht : flag s.p .t = true) (op : Byte) (m : Src) :
    TransferStep s (transferAlu f op m s) (transferAlu f op m (withZpByteInA s)) := by
  have hclear : flag (withZpByteInA s).p .t = false := by simp [withZpByteInA]
  rw [transferAlu_of_set ht, transferAlu_of_clear hclear, zpAlu_eq, accAlu_eq, operand_withZpByteInA]
  have hr : f (withZpByteInA s).a (operand m s).1 (withZpByteInA s).p = f (zpRead s.x s) (operand m s).1 s.p := hf ..
  rw [hr]
  generalize f (zpRead s.x s) (operand m s).1 s.p = r
  refine ⟨?_, ?_, fun k hk => ?_⟩
  · rw [aluState, operand_withZpByteInA, operand_state m s]
    rfl
  · simp [aluState]
  · simp [Memory.read_write_other _ _ hk]

/-- The decimal-mode cycle is charged alike on both sides. -/
theorem TransferStep.addCost {s t u : State} (h : TransferStep s t u) (n : Nat) :
    TransferStep s (addCost n t) (addCost n u) where
  state := by
    rw [h.state]
    simp [Machine.addCost, Nat.add_right_comm]
  written := h.written
  other := h.other

/-- ADC in Transfer mode: the decimal-mode cycle goes by D, which is the same on both sides. -/
theorem transferStep_adc {s : State} (ht : flag s.p .t = true) (op : Byte) (m : Src) :
    TransferStep s (adc op m s) (adc op m (withZpByteInA s)) := by
  have hcost : decimalCost (withZpByteInA s).p = decimalCost s.p := by simp [withZpByteInA, decimalCost]
  rw [adc, adc, hcost]
  exact (transferStep_transferAlu addCore_ignoresT ht op m).addCost _

/-- Settles O24: each of the four is an operation that Transfer mode moves to the zero-page byte at X. -/
theorem transferModeUsesZeroPageAtX : Obligations.TransferModeUsesZeroPageAtX := by
  unfold Obligations.TransferModeUsesZeroPageAtX
  intro v z addr f hf s ht
  suffices h : ∃ g : State → State, (∀ u, exec f.i u = .next (g u)) ∧ TransferStep s (g s) (g (withZpByteInA s)) by
    obtain ⟨g, hexec, hstate, hwritten, hother⟩ := h
    exact ⟨g s, g (withZpByteInA s), hexec s, hexec _, hstate, hwritten, hother⟩
  simp only [List.mem_append] at hf
  obtain ((hf | hf) | hf) | hf := hf
  · exact ⟨_, (exec_andForms v z addr f hf).2, transferStep_transferAlu andCore_ignoresT ht _ _⟩
  · exact ⟨_, (exec_orForms v z addr f hf).2, transferStep_transferAlu orCore_ignoresT ht _ _⟩
  · exact ⟨_, (exec_eorForms v z addr f hf).2, transferStep_transferAlu xorCore_ignoresT ht _ _⟩
  · exact ⟨_, exec_adcForms v z addr f hf, transferStep_adc ht _ _⟩

/-! ## Compare and logic -/

/-- Settles O18: each form is `compareReg` on its register. -/
theorem comparesWriteOnlyFlags : Obligations.ComparesWriteOnlyFlags := by
  unfold Obligations.ComparesWriteOnlyFlags
  intro v z addr r fs hfs f hf s
  have hform : Opcode f.i f.op ∧ ∀ s, exec f.i s = .next (compareReg r f.op f.src s) := by
    simp only [List.mem_cons, Prod.mk.injEq, List.not_mem_nil, or_false] at hfs
    obtain ⟨rfl, rfl⟩ | ⟨rfl, rfl⟩ | ⟨rfl, rfl⟩ := hfs
    · exact exec_cmpForms v z addr f hf
    · exact exec_cpxForms v z addr f hf
    · exact exec_cpyForms v z addr f hf
  obtain ⟨hop, hexec⟩ := hform
  exact ⟨hop, _, (hexec s).trans (congrArg _ (compareReg_eq r f.op f.src s)), compareFlags_spec ..⟩

/-- The computation combines its operands bit by bit with `g`, and writes P by `setNZ` alone. -/
structure Bitwise (g : Bool → Bool → Bool) (core : Byte → Byte → Byte → Result) : Prop where
  bits : ∀ a b p, ∀ n < 8, (core a b p).val.getLsbD n = g (a.getLsbD n) (b.getLsbD n)
  flags : ∀ a b p, (core a b p).p = setNZ (core a b p).val p

theorem bitwise_andCore : Bitwise and andCore := ⟨fun _ _ _ _ _ => BitVec.getLsbD_and, fun _ _ _ => rfl⟩
theorem bitwise_orCore : Bitwise or orCore := ⟨fun _ _ _ _ _ => BitVec.getLsbD_or, fun _ _ _ => rfl⟩
theorem bitwise_xorCore : Bitwise xor xorCore := ⟨fun _ _ _ _ _ => BitVec.getLsbD_xor, fun _ _ _ => rfl⟩

/-- Settles O23: each form is a bitwise computation on A. -/
theorem logicCombinesBits : Obligations.LogicCombinesBits := by
  unfold Obligations.LogicCombinesBits
  intro v z addr g fs hfs f hf s ht
  have hform : ∃ core, Bitwise g core ∧ Opcode f.i f.op ∧ ∀ s, exec f.i s = .next (transferAlu core f.op f.src s) := by
    simp only [List.mem_cons, Prod.mk.injEq, List.not_mem_nil, or_false] at hfs
    obtain ⟨rfl, rfl⟩ | ⟨rfl, rfl⟩ | ⟨rfl, rfl⟩ := hfs
    · exact ⟨_, bitwise_andCore, exec_andForms v z addr f hf⟩
    · exact ⟨_, bitwise_orCore, exec_orForms v z addr f hf⟩
    · exact ⟨_, bitwise_xorCore, exec_eorForms v z addr f hf⟩
  obtain ⟨core, ⟨hbits, hflags⟩, hop, hexec⟩ := hform
  refine ⟨hop, (core s.a (operand f.src s).1 s.p).p, (core s.a (operand f.src s).1 s.p).val, ?_, hbits _ _ _, ?_⟩
  · rw [hexec, transferAlu_of_clear ht, accAlu_eq]
    rfl
  · rw [hflags]
    exact setNZ_flags _ _

end Sys2Proof.Laws
end

section
/-! SUPPORT. Shifts, increments and bit operations (41_shift_bit.md R200 to R216): what each computation makes of a byte
and of P, what the shared operations do to the state, and which operation each form of an instruction runs. -/

namespace Sys2Proof.Laws

open Sys2Proof.Machine
open Sys2Proof.Claims

/-! ## Shifts and rotates (R200 to R203) -/

/-- The left shift with a bit brought in at the right, as a number. -/
theorem shiftLeft_or_carry (v : Byte) (c : Bool) :
    v <<< 1 ||| (if c then 0x01 else 0x00) = BitVec.ofInt 8 (v.toNat * 2 + c.toNat) := by
  have hdisjoint : v <<< 1 &&& (if c then 0x01 else 0x00) = 0 := by
    cases c
    · simp
    · ext i hi
      interval_cases i <;> simp
  rw [← BitVec.add_eq_or_of_and_eq_zero _ _ hdisjoint]
  apply BitVec.eq_of_toNat_eq
  cases c <;> simp [Nat.shiftLeft_eq] <;> omega

/-- The right shift with a bit brought in at the left, as a number. -/
theorem shiftRight_or_carry (v : Byte) (c : Bool) :
    v >>> 1 ||| (if c then 0x80 else 0x00) = BitVec.ofInt 8 (v.toNat / 2 + c.toNat * 128) := by
  have hdisjoint : v >>> 1 &&& (if c then 0x80 else 0x00) = 0 := by
    cases c
    · simp
    · ext i hi
      interval_cases i <;> simp
  rw [← BitVec.add_eq_or_of_and_eq_zero _ _ hdisjoint]
  apply BitVec.eq_of_toNat_eq
  cases c <;> simp [Nat.shiftRight_eq_div_pow] <;> omega

/-- The computation gives the number `val` of the operand and the carry, mod 256, and writes P by `setNZ` with `out` put
into C. -/
structure Shifts (core : Byte → Byte → Result) (val : Byte → Nat → Int) (out : Byte → Bool → Bool) : Prop where
  val : ∀ v p, (core v p).val = BitVec.ofInt 8 (val v (flag p .c).toNat)
  flags : ∀ v p, (core v p).p = setNZ (core v p).val (setFlag p .c (out v (flag p .c)))

theorem shifts_aslCore : Shifts aslCore (fun v _ => v.toNat * 2) (fun v _ => v.getLsbD 7) :=
  ⟨fun v _ => by simpa [aslCore] using shiftLeft_or_carry v false, fun _ _ => rfl⟩

theorem shifts_lsrCore : Shifts lsrCore (fun v _ => v.toNat / 2) (fun v _ => v.getLsbD 0) :=
  ⟨fun v _ => by simpa [lsrCore] using shiftRight_or_carry v false, fun _ _ => rfl⟩

theorem shifts_rolCore : Shifts rolCore (fun v c => v.toNat * 2 + c) (fun v _ => v.getLsbD 7) :=
  ⟨fun v p => shiftLeft_or_carry v (flag p .c), fun _ _ => rfl⟩

theorem shifts_rorCore : Shifts rorCore (fun v c => v.toNat / 2 + c * 128) (fun v _ => v.getLsbD 0) :=
  ⟨fun v p => shiftRight_or_carry v (flag p .c), fun _ _ => rfl⟩

/-- The flags after a shift, as the statement says them. -/
theorem Shifts.flags_spec {core : Byte → Byte → Result} {val : Byte → Nat → Int} {out : Byte → Bool → Bool}
    (h : Shifts core val out) (v p : Byte) :
    flag (core v p).p .c = out v (flag p .c) ∧ NZ (core v p).val (core v p).p ∧ flag (core v p).p .t = false ∧
      Keeps p (core v p).p [.i, .d, .b, .v] := by
  rw [h.flags]
  obtain ⟨hresult, ht, -⟩ := setNZ_flags (core v p).val (setFlag p .c (out v (flag p .c)))
  exact ⟨by simp [flag_setNZ], hresult, ht, keeps_setNZ (keeps_setFlag (by decide) p _) (by decide) _⟩

/-! ## Increment and decrement (R204 to R209) -/

/-- The computation gives the number `val` of the operand mod 256, whatever the carry, and writes P by `setNZ` alone. -/
structure Counts (core : Byte → Byte → Result) (val : Byte → Nat → Int) : Prop where
  val : ∀ v p, (core v p).val = BitVec.ofInt 8 (val v 0)
  flags : ∀ v p, (core v p).p = setNZ (core v p).val p

theorem counts_incCore : Counts incCore (fun v _ => v.toNat + 1) :=
  ⟨fun v _ => by simp [incCore, BitVec.ofInt_add], fun _ _ => rfl⟩

theorem counts_decCore : Counts decCore (fun v _ => (v.toNat : Int) - 1) := by
  refine ⟨fun v _ => BitVec.eq_of_toNat_eq ?_, fun _ _ => rfl⟩
  simp [decCore, BitVec.toNat_sub]
  omega

/-- The flags after a count, as the statement says them. -/
theorem Counts.flags_spec {core : Byte → Byte → Result} {val : Byte → Nat → Int} (h : Counts core val) (v p : Byte) :
    NZ (core v p).val (core v p).p ∧ flag (core v p).p .t = false ∧ Keeps p (core v p).p [.c, .i, .d, .b, .v] := by
  rw [h.flags]
  exact setNZ_flags _ p

/-! ## Bit test and bit modify (R210 to R216) -/

/-- What `setNVZ` leaves, as the statements say it. -/
theorem setNVZ_flags (m : Byte) (z : Bool) (p : Byte) :
    flag (setNVZ m z p) .n = m.getLsbD 7 ∧ flag (setNVZ m z p) .v = m.getLsbD 6 ∧ flag (setNVZ m z p) .z = z ∧
      flag (setNVZ m z p) .t = false ∧ Keeps p (setNVZ m z p) [.c, .i, .d, .b] := by
  refine ⟨flag_setNVZ m z p .n, flag_setNVZ m z p .v, flag_setNVZ m z p .z, flag_setNVZ m z p .t, fun f hf => ?_⟩
  rw [flag_setNVZ]
  cases f with
  | c | i | d | b => rfl
  | z | t | v | n => simp at hf

/-- The computation combines the byte in memory with A bit by bit with `g`; N and V are of the result, Z of A AND
memory. -/
structure MasksByA (g : Bool → Bool → Bool) (core : Byte → Byte → Byte → Result) : Prop where
  bits : ∀ a m p, ∀ n < 8, (core a m p).val.getLsbD n = g (m.getLsbD n) (a.getLsbD n)
  flags : ∀ a m p, (core a m p).p = setNVZ (core a m p).val (decide (a &&& m = 0)) p

theorem masksByA_tsbCore : MasksByA (fun m a => m || a) tsbCore :=
  ⟨fun _ _ _ _ _ => BitVec.getLsbD_or, fun _ _ _ => rfl⟩

theorem masksByA_trbCore : MasksByA (fun m a => m && !a) trbCore :=
  ⟨fun _ _ _ n hn => by simp [trbCore, hn], fun _ _ _ => rfl⟩

/-- The computation of RMBn (`false`) and of SMBn (`true`). -/
def putBit (n : Nat) : Bool → Byte → Byte
  | false => resetBit n
  | true => setBit n

/-- Bit `n` gets the value, the other bits are kept. -/
theorem getLsbD_putBit {n k : Nat} (hk : k < 8) (b : Bool) (v : Byte) :
    (putBit n b v).getLsbD k = if k = n then b else v.getLsbD k := by
  have hmask : (1#8 <<< n).getLsbD k = decide (k = n) := by
    rw [← BitVec.twoPow_eq, BitVec.getLsbD_twoPow]
    grind
  cases b
  · rw [putBit, resetBit, BitVec.getLsbD_and, BitVec.getLsbD_not, hmask]
    by_cases h : k = n <;> simp [hk, h]
  · rw [putBit, setBit, BitVec.getLsbD_or, hmask]
    by_cases h : k = n <;> simp [h]

/-! ## What the shared operations do to the state -/

/-- A write to a location stores there (R75, R80). -/
theorem stored_writeLoc (l : Loc) (v : Byte) (s : State) : Stored s (writeLoc l v s) l v := by
  obtain ⟨k, hcell, hwrite⟩ | ⟨addr, rfl, hcell, hwrite⟩ := writeLoc_cases l v s
  · rw [hwrite]
    refine ⟨fun j hj => ?_, fun hnone => ?_, fun j hj => ?_⟩
    · obtain rfl : k = j := Option.some.inj (hcell.symm.trans hj)
      exact ⟨Memory.read_write_same _ _ _, rfl⟩
    · exact nomatch hcell.symm.trans hnone
    · exact Memory.read_write_other _ _ fun hjk => hj (hjk ▸ hcell)
  · rw [hwrite]
    exact ⟨fun j hj => (nomatch hcell.symm.trans hj), fun _ => ⟨addr, rfl, rfl⟩, fun _ _ => rfl⟩

/-- PC, the counters and P are no part of what `Stored` compares. -/
theorem stored_of_advance_withP {n cost : Nat} {p v : Byte} {s t : State} {l : Loc}
    (h : Stored ((advance n cost s).withP p) t l v) : Stored s t l v := by
  cases l <;> exact h

/-- The spec lemma of `modifyReg`: the computation is on the register and P as they were at the start. -/
theorem modifyReg_eq (core : Byte → Byte → Result) (r : Reg) (op : Byte) (s : State) :
    modifyReg core r op s =
      ((advance 1 (cycles op) s).withP (core (s.get r) s.p).p).set r (core (s.get r) s.p).val := by
  simp only [modifyReg, get_start, start_p]
  rfl

/-- Writing a register other than S. -/
theorem set_eq_of_ne_s {r : Reg} (hr : r ≠ .s) (v : Byte) (s : State) :
    s.set r v = { s with a := (s.set r v).a, x := (s.set r v).x, y := (s.set r v).y } := by
  cases r with
  | a | x | y => rfl
  | s => exact absurd rfl hr

theorem get_advance_withP (n cost : Nat) (p : Byte) (s : State) (r : Reg) :
    ((advance n cost s).withP p).get r = s.get r := by
  cases r <;> rfl

/-- `t` is `u` past a read-modify-write of the location `l`, with `r` written there and the new P. -/
structure Modified (len cost : Nat) (l : Loc) (r : Result) (u t : State) : Prop where
  state : t = { advance len cost u with p := r.p, mem := t.mem, calls := t.calls }
  stored : Stored u t l r.val

/-- The spec lemma of `modifyMem`: one read, then one write of the same location (R86). -/
theorem modifyMem_spec (core : Byte → Byte → Result) (op : Byte) (m : Mode) (s : State) :
    Modified m.length (cycles op) (m.loc s) (core (operand (.mem m) s).1 s.p) (operand (.mem m) s).2
      (modifyMem core op m s) := by
  have heq : modifyMem core op m s = writeLoc (m.loc s) (core (operand (.mem m) s).1 s.p).val
      ((advance m.length (cycles op) (operand (.mem m) s).2).withP (core (operand (.mem m) s).1 s.p).p) := by
    simp only [modifyMem, loc_start, readLoc_start, start_p, readLoc_p]
    rfl
  rw [heq]
  exact ⟨writeLoc_state .., stored_of_advance_withP (stored_writeLoc ..)⟩

/-- The spec lemma of `bitTest`: only P is written. -/
theorem bitTest_eq (op : Byte) (m : Src) (s : State) :
    bitTest op m s = { advance m.length (cycles op) (operand m s).2 with p := bitFlags s.a (operand m s).1 s.p } := by
  simp only [bitTest, operand_start, start_a, start_p, operand_a, operand_p]
  rfl

/-- The spec lemma of `maskTest`: only P is written, and A is not read. -/
theorem maskTest_eq (mask op : Byte) (m : Mode) (s : State) :
    maskTest mask op m s = { advance (m.length + 1) (cycles op) (operand (.mem m) s).2 with
      p := bitFlags mask (operand (.mem m) s).1 s.p } := by
  simp only [maskTest, loc_start, readLoc_start, start_p, readLoc_p]
  rfl

/-! ## The forms (R113, R200 to R216): each runs the shared operation with its own opcode byte and operand -/

/-- What a form does with its computation: in its register, or at its memory operand. -/
def modifyOperand (core : Byte → Byte → Result) (f : ModifyForm) (s : State) : State :=
  match f.mode with
  | none => modifyReg core f.reg f.op s
  | some m => modifyMem core f.op m s

theorem modifyOperand_of_none {f : ModifyForm} (h : f.mode = none) (core : Byte → Byte → Result) (s : State) :
    modifyOperand core f s = modifyReg core f.reg f.op s := by
  rw [modifyOperand, h]

theorem modifyOperand_of_some {f : ModifyForm} {m : Mode} (h : f.mode = some m) (core : Byte → Byte → Result)
    (s : State) : modifyOperand core f s = modifyMem core f.op m s := by
  rw [modifyOperand, h]

/-- What the shift and rotate forms have in common. -/
structure ShiftForm (core : Byte → Byte → Result) (f : ModifyForm) : Prop where
  opcode : Opcode f.i f.op
  reg : f.reg = .a
  shifts : Shifts core f.val f.out
  exec_eq : ∀ s, exec f.i s = .next (modifyOperand core f s)

/-- What the increment and decrement forms have in common. -/
structure CountForm (core : Byte → Byte → Result) (f : ModifyForm) : Prop where
  reg : f.reg ≠ .s
  counts : Counts core f.val
  exec_eq : ∀ s, exec f.i s = .next (modifyOperand core f s)

section Forms

variable (v z : Byte) (addr : Word)

theorem shiftForm_aslForms : ∀ f ∈ aslForms z addr, ShiftForm aslCore f := by
  intro f hf
  fin_cases hf <;> exact ⟨rfl, rfl, shifts_aslCore, fun _ => rfl⟩

theorem shiftForm_lsrForms : ∀ f ∈ lsrForms z addr, ShiftForm lsrCore f := by
  intro f hf
  fin_cases hf <;> exact ⟨rfl, rfl, shifts_lsrCore, fun _ => rfl⟩

theorem shiftForm_rolForms : ∀ f ∈ rolForms z addr, ShiftForm rolCore f := by
  intro f hf
  fin_cases hf <;> exact ⟨rfl, rfl, shifts_rolCore, fun _ => rfl⟩

theorem shiftForm_rorForms : ∀ f ∈ rorForms z addr, ShiftForm rorCore f := by
  intro f hf
  fin_cases hf <;> exact ⟨rfl, rfl, shifts_rorCore, fun _ => rfl⟩

theorem countForm_incForms : ∀ f ∈ incForms z addr, CountForm incCore f := by
  intro f hf
  fin_cases hf <;> exact ⟨nofun, counts_incCore, fun _ => rfl⟩

theorem countForm_decForms : ∀ f ∈ decForms z addr, CountForm decCore f := by
  intro f hf
  fin_cases hf <;> exact ⟨nofun, counts_decCore, fun _ => rfl⟩

theorem exec_bitForms : ∀ f ∈ bitForms v z addr,
    Opcode f.i f.op ∧ ∀ s, exec f.i s = .next (bitTest f.op f.src s) := by
  intro f hf
  fin_cases hf <;> exact ⟨rfl, fun _ => rfl⟩

theorem exec_tstForms : ∀ f ∈ tstForms v z addr, ∀ s, exec f.i s = .next (maskTest v f.op f.mode s) := by
  intro f hf s
  fin_cases hf <;> rfl

theorem exec_tsbForms : ∀ f ∈ tsbForms z addr, ∀ s, exec f.i s = .next (modifyMem (tsbCore s.a) f.op f.mode s) := by
  intro f hf s
  fin_cases hf <;> rfl

theorem exec_trbForms : ∀ f ∈ trbForms z addr, ∀ s, exec f.i s = .next (modifyMem (trbCore s.a) f.op f.mode s) := by
  intro f hf s
  fin_cases hf <;> rfl

theorem exec_bitModifyForms : ∀ f ∈ bitModifyForms z,
    f.2.2.1 < 8 ∧ ∀ s, exec f.1 s = .next (modifyBit (putBit f.2.2.1 f.2.2.2) f.2.1 z s) := by
  intro f hf
  fin_cases hf <;> exact ⟨by simp, fun _ => rfl⟩

end Forms

/-! ## The statements -/

/-- Settles O25: each form is a shift of A or of a byte in memory. -/
theorem shiftsMoveBitsThroughCarry : Obligations.ShiftsMoveBitsThroughCarry := by
  unfold Obligations.ShiftsMoveBitsThroughCarry
  intro z addr f hf s
  have hform : ∃ core, ShiftForm core f := by
    simp only [List.mem_append] at hf
    obtain ((hf | hf) | hf) | hf := hf
    · exact ⟨_, shiftForm_aslForms z addr f hf⟩
    · exact ⟨_, shiftForm_lsrForms z addr f hf⟩
    · exact ⟨_, shiftForm_rolForms z addr f hf⟩
    · exact ⟨_, shiftForm_rorForms z addr f hf⟩
  obtain ⟨core, hop, hreg, hshifts, hexec⟩ := hform
  refine ⟨hop, fun hnone => ?_, fun m hm => ?_⟩
  · rw [hexec, modifyOperand_of_none hnone, modifyReg_eq, hreg, ← hshifts.val]
    exact ⟨_, rfl, hshifts.flags_spec s.a s.p⟩
  · intro v u r
    have hrun : exec f.i s = .next (modifyMem core f.op m s) := by rw [hexec, modifyOperand_of_some hm]
    obtain ⟨hstate, hstored⟩ := modifyMem_spec core f.op m s
    have hr : (core v s.p).val = r := hshifts.val v s.p
    obtain ⟨hcarry, hresult, hkept⟩ := hshifts.flags_spec v s.p
    exact ⟨_, _, hrun, hstate, hr ▸ hstored, hcarry, hr ▸ hresult, hkept⟩

/-- Settles O29: each form combines its byte with A; P goes through `setNVZ`. -/
theorem tsbAndTrbWriteBitsOfA : Obligations.TsbAndTrbWriteBitsOfA := by
  unfold Obligations.TsbAndTrbWriteBitsOfA
  intro z addr g fs hfs f hf s m u
  have hform : ∃ core, MasksByA g core ∧ exec f.i s = .next (modifyMem (core s.a) f.op f.mode s) := by
    simp only [List.mem_cons, Prod.mk.injEq, List.not_mem_nil, or_false] at hfs
    obtain ⟨rfl, rfl⟩ | ⟨rfl, rfl⟩ := hfs
    · exact ⟨_, masksByA_tsbCore, exec_tsbForms z addr f hf s⟩
    · exact ⟨_, masksByA_trbCore, exec_trbForms z addr f hf s⟩
  obtain ⟨core, ⟨hbits, hflags⟩, hexec⟩ := hform
  obtain ⟨hstate, hstored⟩ := modifyMem_spec (core s.a) f.op f.mode s
  obtain ⟨hn, hv, hz, ht, hkept⟩ := setNVZ_flags (core s.a m s.p).val (decide (s.a &&& m = 0)) s.p
  rw [← hflags] at hn hv hz ht hkept
  exact ⟨_, _, _, hexec, hstate, hstored, hbits s.a m s.p, hz, hn, hv, ht, hkept⟩

/-- Settles O30: the byte goes through `putBit`, P through `clearT`. -/
theorem bitModifyWritesOneBit : Obligations.BitModifyWritesOneBit := by
  unfold Obligations.BitModifyWritesOneBit
  intro z f hf s
  obtain ⟨hbit, hexec⟩ := exec_bitModifyForms z f hf
  have hread : zpRead z (modifyBit (putBit f.2.2.1 f.2.2.2) f.2.1 z s) = putBit f.2.2.1 f.2.2.2 (zpRead z s) :=
    Memory.read_write_same _ _ _
  refine ⟨_, _, hexec s, rfl, ?_, fun n hn hne => ?_, fun k hk => Memory.read_write_other _ _ hk, ?_,
    keeps_setFlag (by decide) s.p false⟩
  · rw [hread, getLsbD_putBit hbit, if_pos rfl]
  · rw [hread, getLsbD_putBit hn, if_neg hne]
  · simp

/-- Settles O26: each form counts a register or a byte in memory up or down. -/
theorem incrementsAndDecrementsKeepCarry : Obligations.IncrementsAndDecrementsKeepCarry := by
  unfold Obligations.IncrementsAndDecrementsKeepCarry
  intro z addr f hf s
  have hform : ∃ core, CountForm core f := by
    rw [List.mem_append] at hf
    obtain hf | hf := hf
    · exact ⟨_, countForm_incForms z addr f hf⟩
    · exact ⟨_, countForm_decForms z addr f hf⟩
  obtain ⟨core, hreg, hcounts, hexec⟩ := hform
  refine ⟨fun hnone => ?_, fun m hm => ?_⟩
  · intro r
    have hrun : exec f.i s = .next (modifyReg core f.reg f.op s) := by rw [hexec, modifyOperand_of_none hnone]
    have hr : (core (s.get f.reg) s.p).val = r := hcounts.val _ s.p
    have hflags := hcounts.flags_spec (s.get f.reg) s.p
    rw [hr] at hflags
    refine ⟨_, _, hrun, ?_, ?_, fun q hq => ?_, hflags⟩ <;> rw [modifyReg_eq]
    · exact set_eq_of_ne_s hreg _ _
    · rw [get_set_same, hr]
    · rw [get_set_other _ _ _ _ hq, get_advance_withP]
  · intro v u r
    have hr : (core v s.p).val = r := hcounts.val v s.p
    have hrun : exec f.i s = .next (modifyMem core f.op m s) := by rw [hexec, modifyOperand_of_some hm]
    obtain ⟨hstate, hstored⟩ := modifyMem_spec core f.op m s
    obtain ⟨hresult, hkept⟩ := hcounts.flags_spec v s.p
    exact ⟨_, _, hrun, hstate, hr ▸ hstored, hr ▸ hresult, hkept⟩

/-- Settles O27: each form is `bitTest`, the immediate one too. -/
theorem bitTestsOperandAgainstA : Obligations.BitTestsOperandAgainstA := by
  unfold Obligations.BitTestsOperandAgainstA
  intro v z addr f hf s
  obtain ⟨hop, hexec⟩ := exec_bitForms v z addr f hf
  exact ⟨hop, _, (hexec s).trans (congrArg _ (bitTest_eq f.op f.src s)), setNVZ_flags ..⟩

/-- Settles O28: each form is `maskTest` with the immediate byte as the mask. -/
theorem tstTestsMemoryAgainstMask : Obligations.TstTestsMemoryAgainstMask := by
  unfold Obligations.TstTestsMemoryAgainstMask
  intro v z addr f hf s
  exact ⟨_, (exec_tstForms v z addr f hf s).trans (congrArg _ (maskTest_eq v f.op f.mode s)), setNVZ_flags ..⟩

end Sys2Proof.Laws
end

section
/-! SUPPORT. Branches, jumps, calls and returns (42_control.md R250 to R270): where a displacement leads, what the
shared operations do to the state, and which operation each form of a branch runs. -/

namespace Sys2Proof.Laws

open Sys2Proof.Machine
open Sys2Proof.Claims

/-! ## Flags -/

/-- What `clearT` makes of P, as the statements say it (R42, D6). -/
theorem onlyT_clear (p : Byte) : OnlyT p (setFlag p .t false) := by
  constructor
  · simp
  · exact keeps_setFlag (by decide) p false

/-! ## Branches (R250, R259 to R261) -/

/-- A displacement from the address after an instruction of `n` bytes, as one number mod 65536 (R250). -/
theorem branchTarget_next (pc : Word) (n : Nat) (rel : Int) :
    branchTarget (pc + BitVec.ofNat 16 n) rel = BitVec.ofInt 16 (pc.toNat + n + rel) := by
  rw [branchTarget, BitVec.ofInt_add, BitVec.ofInt_add, BitVec.ofInt_natCast, BitVec.ofInt_natCast,
    BitVec.ofNat_toNat, BitVec.setWidth_eq]

/-- The same for an instruction of two bytes, in the words of the statements. -/
theorem branchTarget_two (pc : Word) (rel : Int) :
    branchTarget (pc + 2) rel = BitVec.ofInt 16 (pc.toNat + 2 + rel) := branchTarget_next pc 2 rel

/-- The spec lemma of a taken branch: `BRANCH_EXTRA` is 2 (R250, R472). -/
theorem takeBranch_eq (rel : Int) (op : Byte) (n : Nat) (s : State) :
    takeBranch rel (clearT (start op n s)) = { advance n (cycles op + 2) s with
      pc := BitVec.ofInt 16 (s.pc.toNat + n + rel), p := setFlag s.p .t false } := by
  rw [← branchTarget_next]
  rfl

/-- T is no branch's flag, so that clearing it first makes no difference (R250). -/
theorem flag_clearT_start {f : Flag} (hf : f ≠ .t) (op : Byte) (n : Nat) (s : State) :
    flag (clearT (start op n s)).p f = flag s.p f := by
  simp [hf]

theorem branchIf_taken {f : Flag} {want : Bool} {s : State} (hf : f ≠ .t) (h : flag s.p f = want) (op : Byte)
    (rel : Int) : branchIf f want op rel s = takeBranch rel (clearT (start op 2 s)) := by
  rw [branchIf, if_pos ((flag_clearT_start hf op 2 s).trans h)]

theorem branchIf_not_taken {f : Flag} {want : Bool} {s : State} (hf : f ≠ .t) (h : flag s.p f ≠ want) (op : Byte)
    (rel : Int) : branchIf f want op rel s = clearT (start op 2 s) := by
  rw [branchIf, if_neg ((flag_clearT_start hf op 2 s).trans_ne h)]

theorem branchBit_taken {n : Nat} {want : Bool} {z : Byte} {s : State} (h : (zpRead z s).getLsbD n = want) (op : Byte)
    (rel : Int) : branchBit n want op z rel s = takeBranch rel (clearT (start op 3 s)) := if_pos h

theorem branchBit_not_taken {n : Nat} {want : Bool} {z : Byte} {s : State} (h : (zpRead z s).getLsbD n ≠ want)
    (op : Byte) (rel : Int) : branchBit n want op z rel s = clearT (start op 3 s) := if_neg h

/-- Each conditional branch runs `branchIf` on a flag other than T, at a base cost of 2 (R251 to R258). -/
theorem exec_branchForms (rel : Int) : ∀ f ∈ branchForms rel,
    f.2.2.1 ≠ .t ∧ cycles f.2.1 = 2 ∧ ∀ s, exec f.1 s = .next (branchIf f.2.2.1 f.2.2.2 f.2.1 rel s) := by
  intro f hf
  fin_cases hf <;> exact ⟨nofun, by dsimp only; decide, fun _ => rfl⟩

/-- Each BBRn and BBSn runs `branchBit` at a base cost of 6 (R260, R261). -/
theorem exec_bitBranchForms (z : Byte) (rel : Int) : ∀ f ∈ bitBranchForms z rel,
    cycles f.2.1 = 6 ∧ ∀ s, exec f.1 s = .next (branchBit f.2.2.1 f.2.2.2 f.2.1 z rel s) := by
  intro f hf
  fin_cases hf <;> exact ⟨by dsimp only; decide, fun _ => rfl⟩

/-- Settles O31: P goes through `clearT`; a taken branch goes through `takeBranch`. -/
theorem branchesGoWhereTheFlagSays : Obligations.BranchesGoWhereTheFlagSays := by
  unfold Obligations.BranchesGoWhereTheFlagSays
  constructor
  · intro rel f hf s
    obtain ⟨hflag, hcost, hexec⟩ := exec_branchForms rel f hf
    refine ⟨_, onlyT_clear s.p, fun htaken => ?_, fun hnot => ?_⟩
    · rw [hexec, branchIf_taken hflag htaken, takeBranch_eq, hcost]
      rfl
    · rw [hexec, branchIf_not_taken hflag hnot, start, hcost]
      rfl
  · intro rel s
    refine ⟨_, onlyT_clear s.p, congrArg Host.Outcome.next ?_⟩
    rw [← branchTarget_two]
    rfl

/-- Settles O32: `branchBit` tests the byte, and only reads it. -/
theorem bitBranchesTestTheZeroPageBit : Obligations.BitBranchesTestTheZeroPageBit := by
  unfold Obligations.BitBranchesTestTheZeroPageBit
  intro z rel f hf s
  obtain ⟨hcost, hexec⟩ := exec_bitBranchForms z rel f hf
  refine ⟨_, onlyT_clear s.p, fun htaken => ?_, fun hnot => ?_⟩
  · rw [hexec, branchBit_taken htaken, takeBranch_eq, hcost]
    rfl
  · rw [hexec, branchBit_not_taken hnot, start, hcost]
    rfl

/-! ## Calls and returns (R262, R266, R267) -/

/-- The spec lemma of `pull16`: low byte first, and only S moves (R82). -/
theorem pull16_eq (s : State) : pull16 s =
    (mkWord (s.mem.read (stackCell (s.sp + 2))) (s.mem.read (stackCell (s.sp + 1))), { s with sp := s.sp + 2 }) := by
  have hsp : s.sp + 1 + 1 = s.sp + 2 := by bv_omega
  simp only [pull16, pull, hsp]

/-- The spec lemma of `callAbs` (R266). -/
theorem callAbs_spec (op : Byte) (addr : Word) (s : State) :
    callAbs op addr s = { advance 3 (cycles op) s with
      pc := addr, sp := s.sp - 2, p := setFlag s.p .t false, mem := (callAbs op addr s).mem } ∧
    Pushed s (callAbs op addr s) [hiByte (s.pc + 2), loByte (s.pc + 2)] :=
  ⟨congrArg (State.withPc · addr) (push16_state (s.pc + 2) (clearT (start op 3 s))),
    pushed_push16 (s.pc + 2) (clearT (start op 3 s))⟩

/-- The spec lemma of `callRel` (R262). -/
theorem callRel_spec (op : Byte) (rel : Int) (s : State) :
    callRel op rel s = { advance 2 (cycles op) s with
      pc := BitVec.ofInt 16 (s.pc.toNat + 2 + rel), sp := s.sp - 2, p := setFlag s.p .t false,
      mem := (callRel op rel s).mem } ∧
    Pushed s (callRel op rel s) [hiByte (s.pc + 1), loByte (s.pc + 1)] := by
  rw [← branchTarget_two]
  exact ⟨congrArg (State.withPc · _) (push16_state (s.pc + 1) (clearT (start op 2 s))),
    pushed_push16 (s.pc + 1) (clearT (start op 2 s))⟩

/-- Settles O33: both calls push through `push16`. -/
theorem callsPushTheirLastByteAddress : Obligations.CallsPushTheirLastByteAddress := by
  unfold Obligations.CallsPushTheirLastByteAddress
  constructor
  · intro addr s
    obtain ⟨hstate, hpushed⟩ := callAbs_spec 0x20 addr s
    exact ⟨_, _, rfl, hstate, hpushed, onlyT_clear s.p⟩
  · intro rel s
    obtain ⟨hstate, hpushed⟩ := callRel_spec 0x44 rel s
    exact ⟨_, _, rfl, hstate, hpushed, onlyT_clear s.p⟩

/-- The spec lemma of `returnSub` (R267). -/
theorem returnSub_eq (op : Byte) (s : State) : returnSub op s = { advance 1 (cycles op) s with
    pc := (pull16 s).1 + 1, sp := s.sp + 2, p := setFlag s.p .t false } := by
  simp only [returnSub, pull16_eq]
  rfl

/-- Settles O34: RTS is `returnSub`, and `pull16` says what it pulls. -/
theorem rtsReturnsAfterThePulledWord : Obligations.RtsReturnsAfterThePulledWord := by
  unfold Obligations.RtsReturnsAfterThePulledWord
  intro s
  refine ⟨rfl, _, onlyT_clear s.p, congrArg Host.Outcome.next ?_⟩
  rw [returnSub_eq, pull16_eq]
  rfl

/-- A call pushes the address of its last byte: the pushed word is one before the next instruction (D17). -/
theorem call_pushes_last_byte {i : Instr} {s t : State} (hcall : (∃ addr, i = .jsr addr) ∨ ∃ rel, i = .bsr rel)
    (hexec : exec i s = .next t) : t.sp = s.sp - 2 ∧
      ∃ w : Word, Pushed s t [hiByte w, loByte w] ∧ w + 1 = s.pc + BitVec.ofNat 16 (encode i).length := by
  obtain ⟨addr, rfl⟩ | ⟨rel, rfl⟩ := hcall
  · obtain ⟨hstate, hpushed⟩ := callAbs_spec 0x20 addr s
    obtain rfl : callAbs 0x20 addr s = t := Host.Outcome.next.inj hexec
    exact ⟨congrArg State.sp hstate, s.pc + 2, hpushed, BitVec.add_assoc s.pc 2 1⟩
  · obtain ⟨hstate, hpushed⟩ := callRel_spec 0x44 rel s
    obtain rfl : callRel 0x44 rel s = t := Host.Outcome.next.inj hexec
    exact ⟨congrArg State.sp hstate, s.pc + 1, hpushed, BitVec.add_assoc s.pc 1 1⟩

/-- Settles O35: the two bytes still there are the pushed word, and RTS goes to the address after it. -/
theorem returnUndoesCall : Obligations.ReturnUndoesCall := by
  unfold Obligations.ReturnUndoesCall
  intro i s t r hcall hexec hsp hhigh hlow
  obtain ⟨hpushedSp, w, ⟨hbytes, -⟩, hnext⟩ := call_pushes_last_byte hcall hexec
  have hhi : t.mem.read (stackCell s.sp) = hiByte w := by simpa using hbytes 0 (hiByte w) rfl
  have hlo : t.mem.read (stackCell (s.sp - 1)) = loByte w := hbytes 1 (loByte w) rfl
  have hrsp : r.sp = s.sp - 2 := hsp.trans hpushedSp
  obtain ⟨hword, -⟩ := pull16_of_cells hrsp (hhigh.trans hhi) (hlow.trans hlo)
  refine ⟨_, rfl, ?_, ?_⟩ <;> rw [returnSub_eq]
  · rw [hword, hnext]
  · rw [hrsp]
    exact BitVec.sub_add_cancel s.sp 2

/-! ## Jumps (R263 to R265) -/

/-- Reading memory and moving past the instruction come in either order. -/
theorem memRead_start (addr : Word) (op : Byte) (n : Nat) (s : State) :
    memRead addr (start op n s) = ((memRead addr s).1, start op n (memRead addr s).2) :=
  readLoc_start (.log addr) op n s

/-- The spec lemma of `jumpIndirect`: the pointer's two bytes are read low first (R264, R265). -/
theorem jumpIndirect_eq (op : Byte) (len : Nat) (ptr : Word) (s : State) :
    let lo := memRead ptr s
    let hi := memRead (ptr + 1) lo.2
    jumpIndirect op len ptr s =
      { advance len (cycles op) hi.2 with pc := mkWord hi.1 lo.1, p := setFlag s.p .t false } := by
  have hp : (memRead (ptr + 1) (memRead ptr s).2).2.p = s.p := by rw [memRead_p, memRead_p]
  simp only [jumpIndirect, memRead16, memRead_start]
  rw [← hp]
  rfl

/-- Settles O36: each form is `jump` or `jumpIndirect`. -/
theorem jumpsSetPc : Obligations.JumpsSetPc := by
  unfold Obligations.JumpsSetPc
  intro addr s
  refine ⟨_, onlyT_clear s.p, rfl, fun i op ptr hform => ?_⟩
  have hexec : exec i s = .next (jumpIndirect op 3 ptr s) := by
    simp only [List.mem_cons, Prod.mk.injEq, List.not_mem_nil, or_false] at hform
    obtain ⟨rfl, rfl, rfl⟩ | ⟨rfl, rfl, rfl⟩ := hform <;> rfl
  exact hexec.trans (congrArg _ (jumpIndirect_eq op 3 ptr s))

/-! ## BRK and RTI (R268, R269, R417) -/

/-- P as an interrupt leaves it: D clear, and I set if asked (R268, R417). -/
def interruptP (setI : Bool) (p : Byte) : Byte :=
  if setI then setFlag (setFlag p .d false) .i true else setFlag p .d false

/-- The state before the vector is read: the return address and a P byte pushed. -/
def interruptPushed (ret : Word) (pushed : Byte) (setI : Bool) (s : State) : State :=
  { s with sp := s.sp - 3, p := interruptP setI s.p, mem := (push pushed (push16 ret s)).mem }

/-- The spec lemma of `takeInterrupt`: the pushes, then PC from the two bytes of the vector. -/
theorem takeInterrupt_eq (ret : Word) (pushed : Byte) (setI : Bool) (vector : Word) (s : State) :
    takeInterrupt ret pushed setI vector s =
      (memRead16 vector (interruptPushed ret pushed setI s)).2.withPc
        (memRead16 vector (interruptPushed ret pushed setI s)).1 := by
  have hsp : (push pushed (push16 ret s)).sp = s.sp - 3 := by
    rw [push_sp, push16_sp]
    bv_omega
  rw [interruptPushed, ← hsp]
  cases setI <;> rfl

/-- The three bytes lie from the stack pointer down, the return address high byte first (R268, R417). -/
theorem pushed_interruptPushed (ret : Word) (pushed : Byte) (setI : Bool) (s : State) :
    Pushed s (interruptPushed ret pushed setI s) [hiByte ret, loByte ret, pushed] :=
  pushed_push (pushed_push16 ret s) pushed (push16_sp ret s) (by simp)

/-- Settles O37: BRK is `takeInterrupt` with B set in the pushed byte and T cleared before. -/
theorem brkTakesTheSoftwareInterrupt : Obligations.BrkTakesTheSoftwareInterrupt := by
  unfold Obligations.BrkTakesTheSoftwareInterrupt
  intro s
  have hrun : exec .brk s = .next (takeInterrupt (s.pc + 2) (setFlag (setFlag s.p .t false) .b true) true 0xFFF6
      (clearT (start 0x00 1 s))) := rfl
  have hpushed := pushed_interruptPushed (s.pc + 2) (setFlag (setFlag s.p .t false) .b true) true
    (clearT (start 0x00 1 s))
  rw [takeInterrupt_eq] at hrun
  refine ⟨_, _, _, _, hrun, rfl, hpushed, by simp, by simp, ?_, by simp [interruptP], by simp [interruptP],
    by simp [interruptP], ?_⟩
  · exact keeps_trans (keeps_setFlag (by decide) s.p false) (keeps_setFlag (by decide) _ true)
  · exact keeps_trans (keeps_setFlag (by decide) s.p false)
      (keeps_trans (keeps_setFlag (by decide) _ false) (keeps_setFlag (by decide) _ true))

/-- The spec lemma of `returnFromInterrupt`: P with B clear, then PC (R269). -/
theorem returnFromInterrupt_eq (s : State) : returnFromInterrupt s = { s with
    pc := mkWord (s.mem.read (stackCell (s.sp + 3))) (s.mem.read (stackCell (s.sp + 2))), sp := s.sp + 3,
    p := setFlag (s.mem.read (stackCell (s.sp + 1))) .b false } := by
  have hlow : s.sp + 1 + 1 = s.sp + 2 := by bv_omega
  have hhigh : s.sp + 1 + 2 = s.sp + 3 := by bv_omega
  simp only [returnFromInterrupt, pull16_eq, pull, State.withP, State.withPc, hlow, hhigh]

/-- Settles O38: RTI is `returnFromInterrupt`. -/
theorem rtiRestoresPAndPc : Obligations.RtiRestoresPAndPc := by
  unfold Obligations.RtiRestoresPAndPc
  intro s
  refine ⟨_, congrArg Host.Outcome.next (returnFromInterrupt_eq (start 0x40 1 s)), ?_, ?_⟩
  · simp
  · exact keeps_setFlag (by decide) _ false

end Sys2Proof.Laws
end

section
/-! SUPPORT. Block transfers, bank transfers and port stores (43_block_bank.md R300 to R327): the byte moves of a
transfer one after another, what TAM leaves in each slot, which register TMA picks, and the operation each form runs. -/

namespace Sys2Proof.Laws

open Sys2Proof.Machine
open Sys2Proof.Config (PageEntry)
open Sys2Proof.Claims

/-! ## Block transfers (R300 to R305) -/

/-- One byte move: a read, then a write (R300). -/
def moveByte (src dst : Word) (s : State) : State := memWrite dst (memRead src s).1 (memRead src s).2

/-- The last of `n + 1` moves comes after the first `n`. -/
theorem copyBytes_succ (srcAt dstAt : Nat → Word) (n : Nat) : ∀ (k : Nat) (s : State),
    copyBytes srcAt dstAt (n + 1) k s = moveByte (srcAt (k + n)) (dstAt (k + n)) (copyBytes srcAt dstAt n k s) := by
  induction n with
  | zero => exact fun _ _ => rfl
  | succ n ih =>
    intro k s
    rw [copyBytes, ih, Nat.succ_add_eq_add_succ]
    rfl

/-! The pointers of step `k`, each as one number mod 65536 (R301 to R305). -/

theorem up_eq (base : Word) (k : Nat) : up base k = BitVec.ofInt 16 (base.toNat + k) := by
  rw [up, BitVec.ofInt_add, BitVec.ofInt_natCast, BitVec.ofInt_natCast, BitVec.ofNat_toNat, BitVec.setWidth_eq]

theorem down_eq (base : Word) (k : Nat) : down base k = BitVec.ofInt 16 (base.toNat - k) := by
  rw [down, Int.sub_eq_add_neg, BitVec.ofInt_add, BitVec.ofInt_neg, BitVec.ofInt_natCast, BitVec.ofInt_natCast,
    BitVec.ofNat_toNat, BitVec.setWidth_eq, BitVec.sub_eq_add_neg]

theorem fixed_eq (base : Word) (k : Nat) : fixed base k = BitVec.ofInt 16 base.toNat := by
  rw [fixed, BitVec.ofInt_natCast, BitVec.ofNat_toNat, BitVec.setWidth_eq]

/-- An alternating pointer is an ascending one whose step is taken mod 2 (R304, R305). -/
theorem alternate_eq (base : Word) (k : Nat) : alternate base k = BitVec.ofInt 16 (base.toNat + k % 2) :=
  up_eq base (k % 2)

/-- Each block transfer runs `blockTransfer` with pointers that are those of its form. -/
theorem exec_blockForms (src dst len : Word) : ∀ f ∈ blockForms src dst len, ∃ srcAt dstAt : Nat → Word,
    (∀ k, srcAt k = BitVec.ofInt 16 (f.2.1 k)) ∧ (∀ k, dstAt k = BitVec.ofInt 16 (f.2.2 k)) ∧
    ∀ s, exec f.1 s = .next (blockTransfer srcAt dstAt len s) := by
  intro f hf
  simp only [blockForms, List.mem_cons, List.not_mem_nil, or_false] at hf
  obtain rfl | rfl | rfl | rfl | rfl := hf
  · exact ⟨up src, up dst, up_eq src, up_eq dst, fun _ => rfl⟩
  · exact ⟨down src, down dst, down_eq src, down_eq dst, fun _ => rfl⟩
  · exact ⟨up src, fixed dst, up_eq src, fixed_eq dst, fun _ => rfl⟩
  · exact ⟨up src, alternate dst, up_eq src, alternate_eq dst, fun _ => rfl⟩
  · exact ⟨alternate src, up dst, alternate_eq src, up_eq dst, fun _ => rfl⟩

/-- Settles O39: the run after `k` moves is `copyBytes` of `k` steps. -/
theorem blockTransfersMoveBytesInOrder : Obligations.BlockTransfersMoveBytesInOrder := by
  unfold Obligations.BlockTransfersMoveBytesInOrder
  intro src dst len f hf s
  obtain ⟨srcAt, dstAt, hsrc, hdst, hexec⟩ := exec_blockForms src dst len f hf
  refine ⟨_, fun k => copyBytes srcAt dstAt k 0 (clearT (advance 7 (17 + 6 * len.toNat) s)), onlyT_clear s.p, rfl,
    fun k _ => ?_, hexec s⟩
  dsimp only
  rw [copyBytes_succ, Nat.zero_add, ← hsrc, ← hdst]
  rfl

/-- `t` is `s` after the bytes at the first `n` cells of `from_` were copied to those of `to_`, and nothing else. -/
structure Copied (from_ to_ : Nat → Nat) (n : Nat) (s t : State) : Prop where
  state : t = { s with mem := t.mem }
  moved : ∀ k < n, t.mem.read (to_ k) = s.mem.read (from_ k)
  kept : ∀ c, (∀ k < n, c ≠ to_ k) → t.mem.read c = s.mem.read c

theorem copied_zero (from_ to_ : Nat → Nat) (s : State) : Copied from_ to_ 0 s s where
  state := rfl
  moved _ hk := absurd hk (Nat.not_lt_zero _)
  kept _ _ := rfl

/-- One more move, from a cell none of the earlier moves wrote to a cell none of them wrote. -/
theorem Copied.succ {from_ to_ : Nat → Nat} {n : Nat} {s t : State} (h : Copied from_ to_ n s t) {src dst : Word}
    (hr : readCell src s = some (from_ n)) (hw : writeCell dst s = some (to_ n))
    (hfrom : ∀ k < n, from_ n ≠ to_ k) (hto : ∀ k < n, to_ k ≠ to_ n) :
    Copied from_ to_ (n + 1) s (moveByte src dst t) := by
  obtain ⟨hstate, hmoved, hkept⟩ := h
  have hrt : readCell src t = some (from_ n) := by rw [hstate]; exact hr
  have hwt : writeCell dst t = some (to_ n) := by rw [hstate]; exact hw
  rw [moveByte, memRead_buffer hrt, memWrite_buffer hwt, hkept _ hfrom]
  constructor
  · rw [hstate]
    rfl
  · intro k hk
    rw [writeMem_mem, mem_read_write]
    obtain hlt | rfl := Nat.lt_succ_iff_lt_or_eq.1 hk
    · rw [if_neg (hto k hlt).symm, hmoved k hlt]
    · rw [if_pos rfl]
  · intro c hc
    rw [writeMem_mem, mem_read_write, if_neg (hc n (Nat.lt_succ_self n)).symm]
    exact hkept c fun k hk => hc k (Nat.lt_succ_of_lt hk)

/-- Moves between cells that do not overlap copy byte by byte (R300). -/
theorem copied_copyBytes {srcAt dstAt : Nat → Word} {from_ to_ : Nat → Nat} {s : State} (n : Nat)
    (hr : ∀ k < n, readCell (srcAt k) s = some (from_ k)) (hw : ∀ k < n, writeCell (dstAt k) s = some (to_ k))
    (hdisj : ∀ k < n, ∀ j < n, to_ k ≠ from_ j ∧ (to_ k = to_ j → k = j)) :
    Copied from_ to_ n s (copyBytes srcAt dstAt n 0 s) := by
  induction n with
  | zero => exact copied_zero from_ to_ s
  | succ n ih =>
    have hlast : n < n + 1 := Nat.lt_succ_self n
    have hfirst : Copied from_ to_ n s (copyBytes srcAt dstAt n 0 s) :=
      ih (fun k hk => hr k (Nat.lt_succ_of_lt hk)) (fun k hk => hw k (Nat.lt_succ_of_lt hk))
        fun k hk j hj => hdisj k (Nat.lt_succ_of_lt hk) j (Nat.lt_succ_of_lt hj)
    rw [copyBytes_succ, Nat.zero_add]
    refine hfirst.succ (hr n hlast) (hw n hlast) (fun k hk => ?_) (fun k hk => ?_)
    · obtain ⟨hne, -⟩ := hdisj k (Nat.lt_succ_of_lt hk) n hlast
      exact hne.symm
    · obtain ⟨-, hinj⟩ := hdisj k (Nat.lt_succ_of_lt hk) n hlast
      exact fun h => Nat.ne_of_lt hk (hinj h)

/-- Settles O40: TII is `copyBytes` from a state with the same memory and page tables. -/
theorem tiiCopiesDisjointRanges : Obligations.TiiCopiesDisjointRanges := by
  unfold Obligations.TiiCopiesDisjointRanges
  intro src dst len s from_ to_ hr hw hdisj
  obtain ⟨hstate, hmoved, hkept⟩ : Copied from_ to_ len.toNat (clearT (advance 7 (17 + 6 * len.toNat) s))
      (blockTransfer (up src) (up dst) len s) := copied_copyBytes len.toNat hr hw hdisj
  exact ⟨_, _, rfl, hstate, onlyT_clear s.p, hmoved, hkept⟩

/-! ## TAM (R320) -/

/-- Everything the machine holds for slot `i`: the banking register and both page-table entries (R50, R52). -/
def slotMap (i : Fin 8) (s : State) : Byte × PageEntry × PageEntry := (s.mpr.get i, s.pageR.get i, s.pageW.get i)

theorem slotMap_writeMpr (i j : Fin 8) (v : Byte) (s : State) :
    slotMap i (writeMpr j v s) = if i = j then (v, bankEntries i v s) else slotMap i s := by
  split
  · next h =>
    subst h
    simp [slotMap]
  · next h => simp [slotMap, vget_set_other _ h]

/-- The bank manager's answer to a slot is not moved by mapping another (R78). -/
theorem bankEntries_bankStep (i j : Fin 8) (v w mask : Byte) (s : State) :
    bankEntries i v (bankStep mask w s j) = bankEntries i v s := by
  unfold bankStep
  split <;> rfl

theorem slotMap_bankStep (i j : Fin 8) (mask v : Byte) (s : State) : slotMap i (bankStep mask v s j) =
    if i = j ∧ mask.getLsbD i = true then (v, bankEntries i v s) else slotMap i s := by
  unfold bankStep
  by_cases hij : i = j
  · subst hij
    simp only [apply_ite (slotMap i), slotMap_writeMpr, if_true, true_and]
  · simp only [apply_ite (slotMap i), slotMap_writeMpr, hij, if_false, ite_self, false_and]

/-- TAM over any list of slots: the selected slots of the list get the value and its entries, and no other (R320, R78,
D42). -/
theorem slotMap_foldBanks (i : Fin 8) (mask v : Byte) (l : List (Fin 8)) : ∀ s : State,
    slotMap i (l.foldl (bankStep mask v) s) =
      if i ∈ l ∧ mask.getLsbD i = true then (v, bankEntries i v s) else slotMap i s := by
  induction l with
  | nil => intro s; simp
  | cons j l ih =>
    intro s
    rw [List.foldl_cons, ih, bankEntries_bankStep, slotMap_bankStep]
    by_cases hi : mask.getLsbD i = true
    · by_cases hmem : i ∈ l <;> simp only [hi, hmem, List.mem_cons, or_true, or_false, and_true, if_true, if_false]
    · simp only [hi, and_false, if_false, Bool.false_eq_true]

/-- One `bank_set` call a selected slot, the later slot's the newer (R320, R400). -/
theorem foldBanks_calls (mask v : Byte) (l : List (Fin 8)) : ∀ s : State, (l.foldl (bankStep mask v) s).calls =
    (l.filter (fun (i : Fin 8) => mask.getLsbD i)).reverse.map (fun i => ExtCall.bankSet i v) ++ s.calls := by
  induction l with
  | nil => exact fun _ => rfl
  | cons j l ih =>
    intro s
    rw [List.foldl_cons, ih, bankStep, List.filter_cons]
    split
    · simp
    · rfl

theorem slots_eq_finRange : slots = List.finRange 8 := by decide

theorem mem_slots (i : Fin 8) : i ∈ slots := slots_eq_finRange ▸ List.mem_finRange i

/-- What TAM leaves in a slot, selected or not (R320). -/
theorem slotMap_toBanks (i : Fin 8) (op mask : Byte) (s : State) : slotMap i (toBanks op mask s) =
    if mask.getLsbD i = true then (s.a, bankEntries i s.a s) else slotMap i s := by
  have hfold := slotMap_foldBanks i mask s.a slots (clearT (start op 2 s))
  simp only [mem_slots, true_and] at hfold
  exact hfold

theorem toBanks_calls (op mask : Byte) (s : State) : (toBanks op mask s).calls =
    ((List.finRange 8).filter (fun (i : Fin 8) => mask.getLsbD i)).reverse.map (fun i => ExtCall.bankSet i s.a)
      ++ s.calls := by
  rw [toBanks, slots_eq_finRange]
  exact foldBanks_calls mask s.a _ _

theorem toBanks_state (op mask : Byte) (s : State) : toBanks op mask s = { advance 2 (cycles op) s with
    p := setFlag s.p .t false, mpr := (toBanks op mask s).mpr, pageR := (toBanks op mask s).pageR,
    pageW := (toBanks op mask s).pageW, calls := (toBanks op mask s).calls } :=
  foldBanks_state mask s.a slots (clearT (start op 2 s))

/-! ## TMA (R321) -/

section Select

variable {α β : Type} {p : α → Bool} {g : α → β}

/-- A choice that goes through a list keeps its first value when nothing is selected. -/
theorem foldl_select_of_none (l : List α) (a : β) (h : ∀ j ∈ l, p j = false) :
    l.foldl (fun v i => if p i then g i else v) a = a := by
  induction l with
  | nil => rfl
  | cons j l ih =>
    have hj : p j = false := h j List.mem_cons_self
    rw [List.foldl_cons, hj]
    exact ih fun k hk => h k (List.mem_cons_of_mem _ hk)

/-- It ends with the last one selected. -/
theorem foldl_select_of_last (l m : List α) {i : α} (a : β) (hi : p i = true) (h : ∀ j ∈ m, p j = false) :
    (l ++ i :: m).foldl (fun v i => if p i then g i else v) a = g i := by
  rw [List.foldl_append, List.foldl_cons, foldl_select_of_none m _ h, if_pos hi]

end Select

/-- Only greater slots come after a slot. -/
theorem slots_split (i : Fin 8) : ∃ l m, slots = l ++ i :: m ∧ ∀ j ∈ m, i < j := by
  obtain ⟨l, m, h⟩ := List.append_of_mem (mem_slots i)
  have hsorted : (l ++ i :: m).Pairwise (· < ·) := h ▸ (by decide : slots.Pairwise (· < ·))
  obtain ⟨-, hafter, -⟩ := List.pairwise_append.1 hsorted
  exact ⟨l, m, h, fun _ hj => List.rel_of_pairwise_cons hafter hj⟩

/-- No mask bit leaves A as it was (D20; log 25). -/
theorem selectMpr_zero (mpr : Vector Byte 8) (a : Byte) : selectMpr 0 mpr a = a :=
  foldl_select_of_none slots a fun _ _ => BitVec.getLsbD_zero

/-- The highest mask bit chooses (R321). -/
theorem selectMpr_of_highest {mask : Byte} {i : Fin 8} (hi : mask.getLsbD i = true)
    (h : ∀ j : Fin 8, i < j → mask.getLsbD j = false) (mpr : Vector Byte 8) (a : Byte) :
    selectMpr mask mpr a = mpr.get i := by
  obtain ⟨l, m, hslots, hm⟩ := slots_split i
  rw [selectMpr, hslots]
  exact foldl_select_of_last (p := fun j : Fin 8 => mask.getLsbD j) l m a hi fun j hj => h j (hm j hj)

/-- Settles O41: TAM by what it leaves in each slot, TMA by what `selectMpr` picks. -/
theorem bankTransfersFollowTheMask : Obligations.BankTransfersFollowTheMask := by
  unfold Obligations.BankTransfersFollowTheMask
  constructor
  · intro mask s
    refine ⟨_, _, rfl, toBanks_state 0x53 mask s, onlyT_clear s.p, fun i hi => ?_, fun i hi => ?_,
      toBanks_calls 0x53 mask s⟩
    · exact Prod.mk.inj ((slotMap_toBanks i 0x53 mask s).trans (if_pos hi))
    · have hkept := (slotMap_toBanks i 0x53 mask s).trans (if_neg (Bool.eq_false_iff.1 hi))
      simpa only [slotMap, Prod.mk.injEq] using hkept
  · intro mask s
    refine ⟨_, selectMpr mask s.mpr s.a, rfl, onlyT_clear s.p, ?_,
      fun i hi h => selectMpr_of_highest hi h s.mpr s.a⟩
    rintro rfl
    exact selectMpr_zero s.mpr s.a

/-! ## Port stores (R325 to R327) -/

/-- Each port store runs `portStore` at its own port (D26; log 27). -/
theorem exec_portForms (v : Byte) : ∀ f ∈ portForms v, ∀ s, exec f.1 s = .next (portStore f.2.2 f.2.1 v s) := by
  intro f hf s
  fin_cases hf <;> rfl

/-- Settles O43: `portStore` records one call on the advanced state, and looks at no page table. -/
theorem portStoresCallTheIoHandler : Obligations.PortStoresCallTheIoHandler := by
  unfold Obligations.PortStoresCallTheIoHandler
  intro v f hf s
  exact ⟨_, onlyT_clear s.p, exec_portForms v f hf s⟩

end Sys2Proof.Laws
end

section
/-! SUPPORT. Loads, stores, transfers, the stack and the flag instructions (44_load_store_misc.md R340 to R381): what the
shared operations do to the state, and which operation each form of an instruction runs. -/

namespace Sys2Proof.Laws

open Sys2Proof.Machine
open Sys2Proof.Claims

/-! ## Writing registers -/

/-- `t` is `u` but for A, X and Y, and with P as `p`. -/
def OnlyAXY (p : Byte) (u t : State) : Prop := t = { u with a := t.a, x := t.x, y := t.y, p := p }

theorem onlyAXY_withP (p : Byte) (u : State) : OnlyAXY p u (u.withP p) := rfl

/-- Writing one more register other than S. -/
theorem OnlyAXY.set {p : Byte} {u t : State} (h : OnlyAXY p u t) {r : Reg} (hr : r ≠ .s) (v : Byte) :
    OnlyAXY p u (t.set r v) := by
  cases r with
  | a => exact congrArg (State.set · .a v) h
  | x => exact congrArg (State.set · .x v) h
  | y => exact congrArg (State.set · .y v) h
  | s => exact absurd rfl hr

/-- T is no part of a register: it may be cleared before or after one is written. -/
theorem clearT_set (r : Reg) (v : Byte) (s : State) : clearT (s.set r v) = (clearT s).set r v := by
  cases r <;> rfl

/-! ## What the shared operations do to the state -/

/-- The spec lemma of `load`: the operand as it is read at the start goes to the register (R340 to R342). -/
theorem load_eq (r : Reg) (op : Byte) (m : Src) (s : State) :
    load r op m s = ((advance m.length (cycles op) (operand m s).2).withP (setNZ (operand m s).1 s.p)).set r
      (operand m s).1 := by
  simp only [load, operand_start, start_p, operand_p]
  rfl

/-- The spec lemma of `store`: no data read, one write at the location as it is at the start (R345 to R348). -/
theorem store_eq (v op : Byte) (m : Mode) (s : State) :
    store v op m s = writeLoc (m.loc s) v ((advance m.length (cycles op) s).withP (setFlag s.p .t false)) := by
  simp only [store, loc_start]
  rfl

/-- The spec lemma of `transfer` (R350 to R354). -/
theorem transfer_eq (src dst : Reg) (op : Byte) (s : State) :
    transfer src dst op s =
      ((advance 1 (cycles op) s).withP (setNZ (s.get src) s.p)).set dst (s.get src) := by
  simp only [transfer, get_start, start_p]
  rfl

/-- The spec lemma of `swap` (R356 to R358). -/
theorem swap_eq (r q : Reg) (op : Byte) (s : State) :
    swap r q op s =
      (((advance 1 (cycles op) s).withP (setFlag s.p .t false)).set r (s.get q)).set q (s.get r) := by
  simp only [swap, clearT_set]
  rfl

/-- The spec lemma of `clearReg` (R359 to R361). -/
theorem clearReg_eq (r : Reg) (op : Byte) (s : State) :
    clearReg r op s = ((advance 1 (cycles op) s).withP (setFlag s.p .t false)).set r 0 := clearT_set r 0 _

/-- The spec lemma of `pullReg`: S is written, then the register (R366, R368, R369). -/
theorem pullReg_eq (r : Reg) (op : Byte) (s : State) :
    pullReg r op s = (((advance 1 (cycles op) s).withP (setNZ (s.mem.read (stackCell (s.sp + 1))) s.p)).set .s
      (s.sp + 1)).set r (s.mem.read (stackCell (s.sp + 1))) := rfl

/-- One byte pushed (R82). -/
theorem pushed_single (v : Byte) (s : State) : Pushed s (push v s) [v] :=
  pushed_push (pushed_nil s) v (by simp) (by simp)

/-! ## The forms (R113, R330, R331, R340 to R381): each runs the shared operation with its own opcode byte and
operand -/

section Forms

variable (v z : Byte) (addr : Word)

theorem exec_ldaForms : ∀ f ∈ ldaForms v z addr,
    Opcode f.i f.op ∧ ∀ s, exec f.i s = .next (load .a f.op f.src s) := by
  intro f hf
  fin_cases hf <;> exact ⟨rfl, fun _ => rfl⟩

theorem exec_ldxForms : ∀ f ∈ ldxForms v z addr,
    Opcode f.i f.op ∧ ∀ s, exec f.i s = .next (load .x f.op f.src s) := by
  intro f hf
  fin_cases hf <;> exact ⟨rfl, fun _ => rfl⟩

theorem exec_ldyForms : ∀ f ∈ ldyForms v z addr,
    Opcode f.i f.op ∧ ∀ s, exec f.i s = .next (load .y f.op f.src s) := by
  intro f hf
  fin_cases hf <;> exact ⟨rfl, fun _ => rfl⟩

theorem exec_staForms : ∀ f ∈ staForms z addr, ∀ s, exec f.i s = .next (store s.a f.op f.mode s) := by
  intro f hf s
  fin_cases hf <;> rfl

theorem exec_stxForms : ∀ f ∈ stxForms z addr, ∀ s, exec f.i s = .next (store s.x f.op f.mode s) := by
  intro f hf s
  fin_cases hf <;> rfl

theorem exec_styForms : ∀ f ∈ styForms z addr, ∀ s, exec f.i s = .next (store s.y f.op f.mode s) := by
  intro f hf s
  fin_cases hf <;> rfl

theorem exec_stzForms : ∀ f ∈ stzForms z addr, ∀ s, exec f.i s = .next (store 0x00 f.op f.mode s) := by
  intro f hf s
  fin_cases hf <;> rfl

end Forms

theorem exec_transferForms : ∀ f ∈ transferForms,
    f.dst ≠ .s ∧ ∀ s, exec f.i s = .next (transfer f.src f.dst f.op s) := by
  intro f hf
  fin_cases hf <;> exact ⟨nofun, fun _ => rfl⟩

theorem exec_swapForms : ∀ f ∈ swapForms,
    f.src ≠ .s ∧ f.dst ≠ .s ∧ f.src ≠ f.dst ∧ ∀ s, exec f.i s = .next (swap f.src f.dst f.op s) := by
  intro f hf
  fin_cases hf <;> exact ⟨nofun, nofun, nofun, fun _ => rfl⟩

theorem exec_clearForms : ∀ f ∈ clearForms, f.2.2 ≠ .s ∧ ∀ s, exec f.1 s = .next (clearReg f.2.2 f.2.1 s) := by
  intro f hf
  fin_cases hf <;> exact ⟨nofun, fun _ => rfl⟩

theorem exec_pushForms : ∀ f ∈ pushForms, ∀ s, exec f.1 s = .next (pushReg f.2.2 f.2.1 s) := by
  intro f hf s
  fin_cases hf <;> rfl

theorem exec_pullForms : ∀ f ∈ pullForms, f.2.2 ≠ .s ∧ ∀ s, exec f.1 s = .next (pullReg f.2.2 f.2.1 s) := by
  intro f hf
  fin_cases hf <;> exact ⟨nofun, fun _ => rfl⟩

theorem exec_flagForms : ∀ f ∈ flagForms,
    f.2.2.1 ≠ .t ∧ ∀ s, exec f.1 s = .next (writeFlag f.2.2.1 f.2.2.2 f.2.1 s) := by
  intro f hf
  fin_cases hf <;> exact ⟨nofun, fun _ => rfl⟩

theorem exec_idleForms : ∀ f ∈ idleForms, ∀ s, exec f.i s = .next (clearT (start f.op 1 s)) := by
  intro f hf s
  fin_cases hf <;> rfl

/-! ## The statements -/

/-- Settles O45: each form is `store`, which writes through `writeLoc` alone. -/
theorem storesWriteOneByte : Obligations.StoresWriteOneByte := by
  unfold Obligations.StoresWriteOneByte
  intro z addr get fs hfs f hf s
  have hrun : exec f.i s = .next (store (get s) f.op f.mode s) := by
    simp only [List.mem_cons, Prod.mk.injEq, List.not_mem_nil, or_false] at hfs
    obtain ⟨rfl, rfl⟩ | ⟨rfl, rfl⟩ | ⟨rfl, rfl⟩ | ⟨rfl, rfl⟩ := hfs
    · exact exec_staForms z addr f hf s
    · exact exec_stxForms z addr f hf s
    · exact exec_styForms z addr f hf s
    · exact exec_stzForms z addr f hf s
  rw [store_eq] at hrun
  exact ⟨_, _, hrun, writeLoc_state .., stored_of_advance_withP (stored_writeLoc ..), onlyT_clear s.p⟩

/-- Settles O48: T is cleared first, then one byte goes through `push`. -/
theorem pushesStoreOneStackByte : Obligations.PushesStoreOneStackByte := by
  unfold Obligations.PushesStoreOneStackByte
  constructor
  · intro f hf s
    exact ⟨_, _, exec_pushForms f hf s, rfl, pushed_single (s.get f.2.2) (clearT (start f.2.1 1 s)), onlyT_clear s.p⟩
  · intro s
    exact ⟨_, _, rfl, rfl, pushed_single (setFlag s.p .t false) (clearT (start 0x08 1 s)), onlyT_clear s.p⟩

/-- Settles O44: each form is `load` into its register. -/
theorem loadsSetRegisterAndNZ : Obligations.LoadsSetRegisterAndNZ := by
  unfold Obligations.LoadsSetRegisterAndNZ
  intro v z addr r fs hfs f hf s
  have hform : r ≠ .s ∧ Opcode f.i f.op ∧ ∀ s, exec f.i s = .next (load r f.op f.src s) := by
    simp only [List.mem_cons, Prod.mk.injEq, List.not_mem_nil, or_false] at hfs
    obtain ⟨rfl, rfl⟩ | ⟨rfl, rfl⟩ | ⟨rfl, rfl⟩ := hfs
    · exact ⟨nofun, exec_ldaForms v z addr f hf⟩
    · exact ⟨nofun, exec_ldxForms v z addr f hf⟩
    · exact ⟨nofun, exec_ldyForms v z addr f hf⟩
  obtain ⟨hr, hop, hexec⟩ := hform
  refine ⟨hop, _, _, (hexec s).trans (congrArg _ (load_eq ..)), (onlyAXY_withP _ _).set hr _, get_set_same _ _ _,
    fun q hq => ?_, setNZ_flags _ _⟩
  rw [get_set_other _ _ _ _ hq, get_advance_withP, get_operand]

/-- Settles O46: each form is `transfer`; TXS writes S and T. -/
theorem transfersCopyRegisters : Obligations.TransfersCopyRegisters := by
  unfold Obligations.TransfersCopyRegisters
  constructor
  · intro f hf s
    obtain ⟨hdst, hexec⟩ := exec_transferForms f hf
    refine ⟨_, _, (hexec s).trans (congrArg _ (transfer_eq ..)), (onlyAXY_withP _ _).set hdst _, get_set_same _ _ _,
      fun q hq => ?_, setNZ_flags _ _⟩
    rw [get_set_other _ _ _ _ hq, get_advance_withP]
  · intro s
    exact ⟨_, onlyT_clear s.p, rfl⟩

/-- Settles O47: two registers are written by `swap`, one by `clearReg`; P goes through `clearT`. -/
theorem swapsAndClearsWriteNoFlagButT : Obligations.SwapsAndClearsWriteNoFlagButT := by
  unfold Obligations.SwapsAndClearsWriteNoFlagButT
  constructor
  · intro f hf s
    obtain ⟨hsrc, hdst, hne, hexec⟩ := exec_swapForms f hf
    refine ⟨_, _, (hexec s).trans (congrArg _ (swap_eq ..)), ((onlyAXY_withP _ _).set hsrc _).set hdst _,
      get_set_same _ _ _, ?_, fun q hqdst hqsrc => ?_, onlyT_clear s.p⟩
    · rw [get_set_other _ _ _ _ hne, get_set_same]
    · rw [get_set_other _ _ _ _ hqdst, get_set_other _ _ _ _ hqsrc, get_advance_withP]
  · intro f hf s
    obtain ⟨hr, hexec⟩ := exec_clearForms f hf
    refine ⟨_, _, (hexec s).trans (congrArg _ (clearReg_eq ..)), (onlyAXY_withP _ _).set hr _, get_set_same _ _ _,
      fun q hq => ?_, onlyT_clear s.p⟩
    rw [get_set_other _ _ _ _ hq, get_advance_withP]

/-- Settles O49: each register form is `pullReg`; PLP takes P from the byte as it is. -/
theorem pullsLoadOneStackByte : Obligations.PullsLoadOneStackByte := by
  unfold Obligations.PullsLoadOneStackByte
  constructor
  · intro f hf s
    obtain ⟨hr, hexec⟩ := exec_pullForms f hf
    refine ⟨_, _, (hexec s).trans (congrArg _ (pullReg_eq ..)),
      (onlyAXY_withP _ ((advance 1 (cycles f.2.1) s).set .s (s.sp + 1))).set hr _, get_set_same _ _ _,
      fun q hq hqs => ?_, setNZ_flags _ _⟩
    rw [get_set_other _ _ _ _ hq, get_set_other _ _ _ _ hqs, get_advance_withP]
  · intro s
    rfl

/-- Settles O50: P goes through one `setFlag` and `clearT`, through one `setFlag` for SET, through `clearT` alone for the
rest. -/
theorem flagInstructionsWriteTheirFlag : Obligations.FlagInstructionsWriteTheirFlag := by
  unfold Obligations.FlagInstructionsWriteTheirFlag
  refine ⟨fun f hf s => ?_, fun s => ?_, fun f hf s => ?_⟩
  · obtain ⟨hflag, hexec⟩ := exec_flagForms f hf
    refine ⟨setFlag (setFlag s.p f.2.2.1 f.2.2.2) .t false, hexec s, ?_, ?_, fun g hg ht => ?_⟩
    · simp [hflag]
    · simp
    · simp [hg, ht]
  · exact ⟨setFlag s.p .t true, rfl, by simp, keeps_setFlag (by decide) s.p true⟩
  · exact ⟨_, onlyT_clear s.p, exec_idleForms f hf s⟩

end Sys2Proof.Laws
end

section
/-! SUPPORT. The step of a known instruction, and the loop after it (60_exceptions.md R401, R410 to R421): what the
scanline step, the timer step and the service step each do, how `afterInstr` joins them, and what interrupt entry saves
for RTI. -/

namespace Sys2Proof.Laws

open Sys2Proof.Machine
open Sys2Proof.Config (CallbackResult Source IrqMask)
open Sys2Proof.Claims

/-! ## The step of an instruction whose bytes stand at PC (R115, R410) -/

/-- Code in buffers is fetched whole, without a call (R74, R115). -/
theorem fetch_of_codeAt {i : Instr} {s : State} (h : CodeAt s s.pc (encode i)) : fetch s = (encode i, s) := by
  obtain ⟨op, bs, henc, hlen⟩ := encode_length i
  rw [henc] at h ⊢
  exact fetch_code s op bs hlen h

/-- Settles O1: the fetch gives the encoding and leaves the state, and the encoding decodes to the instruction. -/
theorem stepRunsDecodedInstruction : Obligations.StepRunsDecodedInstruction := by
  unfold Obligations.StepRunsDecodedInstruction
  intro s i hrun hwf hcode
  obtain ⟨j, t, hdec, hexec, hstep⟩ := step_of_running hrun
  rw [fetch_of_codeAt hcode] at hdec hexec
  rw [decode_of_encode_eq hwf (List.append_nil _)] at hdec
  cases hdec
  exact ⟨t, hexec, hstep⟩

/-! ## Pending requests (R57) -/

/-- A request read after one was written: the written one has the value, the others are unchanged. -/
theorem has_put (q : Pending) (src x : Source) (v : Bool) : (q.put src v).has x = if x = src then v else q.has x := by
  cases src <;> cases x <;> rfl

/-! ## The scanline step (R401, R411) -/

theorem scanlineStep_within {s : State} (h : s.scanCycles ≤ 455) : scanlineStep s = (s, false) :=
  if_neg (Nat.not_lt.2 h)

theorem scanlineStep_over {s : State} (h : 455 < s.scanCycles) : scanlineStep s =
    (applyCallback (callbackValue { s with scanCycles := s.scanCycles - 455 }).result
      (callCallback { s with scanCycles := s.scanCycles - 455 }), true) :=
  if_pos h

/-- The callback runs strictly over the budget and not before (D15). -/
theorem scanlineStep_ran_iff (s : State) : (scanlineStep s).2 = true ↔ 455 < s.scanCycles := by
  by_cases h : 455 < s.scanCycles
  · simp [scanlineStep_over h, h]
  · simp [scanlineStep_within (Nat.not_lt.1 h), h]

/-- Quit is the only result that touches the status (R401). -/
theorem applyCallback_status (r : CallbackResult) (s : State) :
    (applyCallback r s).status = if r = .quit then .quit else s.status := by
  cases r <;> rfl

/-- A source that is the result joins `pending`, and no other request changes (R401). -/
theorem applyCallback_has (r : CallbackResult) (s : State) (src : Source) :
    (applyCallback r s).pending.has src = (s.pending.has src || decide (r = .request src)) := by
  cases r with
  | none | quit => simp [applyCallback]
  | request x =>
    rw [applyCallback, request_pending, has_put]
    by_cases h : src = x
    · simp [h]
    · simp [h, Ne.symm h]

/-- The host's own bytes are the only ones that change during a callback (log 13). -/
theorem applyCallback_mem_read {r : CallbackResult} {s : State} {k : Nat}
    (h : ∀ c ∈ (callbackValue s).pokes, c.1 ≠ k) : (applyCallback r (callCallback s)).mem.read k = s.mem.read k := by
  rw [applyCallback_state]
  exact Memory.read_writeAll_other _ _ k h

/-- The callback and its result: one call recorded, and nothing beyond memory, `pending` and the status (R401). -/
theorem applyCallback_callCallback_state (r : CallbackResult) (s : State) :
    let t := applyCallback r (callCallback s)
    t = { s with platform := t.platform, draws := t.draws, calls := .callback (callbackValue s).result :: s.calls,
                 mem := t.mem, pending := t.pending, status := t.status } := by
  cases r <;> rfl

/-- Settles O56: over the budget the step is one callback and its result. -/
theorem scanlineCallbackRunsOnceOverBudget : Obligations.ScanlineCallbackRunsOnceOverBudget := by
  unfold Obligations.ScanlineCallbackRunsOnceOverBudget
  intro s
  exact ⟨scanlineStep_within, fun h => ⟨_, scanlineStep_over h, applyCallback_callCallback_state _ _,
    fun _ => applyCallback_mem_read, applyCallback_status _ _, applyCallback_has _ _⟩⟩

/-! ## The timer step (R412, R431) -/

theorem timerStep_within {s : State} (h : s.timerDelta ≤ periodValue s) : timerStep s = (callPeriod s, false) :=
  if_neg (Nat.not_lt.2 h)

theorem timerStep_over {s : State} (h : periodValue s < s.timerDelta) : timerStep s =
    (request .timer { callPeriod s with timerDelta := clampDelta s.timerDelta (periodValue s) }, true) :=
  if_pos h

/-- The timer fires strictly over the period and not before (R412). -/
theorem timerStep_fired_iff (s : State) : (timerStep s).2 = true ↔ periodValue s < s.timerDelta := by
  by_cases h : periodValue s < s.timerDelta
  · simp [timerStep_over h, h]
  · simp [timerStep_within (Nat.not_lt.1 h), h]

theorem clampDelta_of_lt {delta period : Nat} (h : delta < 2 * period) : clampDelta delta period = delta - period :=
  if_neg (by omega)

theorem clampDelta_of_le {delta period : Nat} (h : 2 * period ≤ delta) : clampDelta delta period = 0 :=
  if_pos (by omega)

/-- What is left after a firing does not fire again (D14). -/
theorem clampDelta_le (delta period : Nat) : clampDelta delta period ≤ period := by
  unfold clampDelta
  split <;> omega

/-- Settles O57: the timer step either records its query alone or fires with the clamped rest. -/
theorem timerFiresOnceAndClampsBacklog : Obligations.TimerFiresOnceAndClampsBacklog := by
  unfold Obligations.TimerFiresOnceAndClampsBacklog
  intro s
  refine ⟨fun h => ?_, fun h => ?_, ⟨_, rfl, rfl⟩, fun n => ⟨⟨[n], none⟩, rfl⟩, fun h => ?_⟩
  · rw [timerStep_within h]
    exact ⟨rfl, rfl⟩
  · exact ⟨_, _, timerStep_over h, rfl, clampDelta_of_lt, clampDelta_of_le, clampDelta_le _ _⟩
  · rw [timerStep_over h]
    exact ⟨rfl, clampDelta_le _ _⟩

/-! ## The rest of the iteration (R410) -/

/-- A scanline step that stops the machine ends the iteration (D35). -/
theorem afterInstr_of_stopped {s : State} (h : s.status = .running) (hstop : (scanlineStep s).1.status ≠ .running) :
    afterInstr s = (scanlineStep s).1 := by
  simp only [afterInstr, h]
  cases hs : (scanlineStep s).1.status with
  | running => exact absurd hs hstop
  | quit => rfl
  | halted pc op => rfl

theorem afterInstr_of_running {s : State} (h : s.status = .running) (hrun : (scanlineStep s).1.status = .running) :
    afterInstr s = timerAndService (scanlineStep s).2 (scanlineStep s).1 := by
  simp only [afterInstr, h, hrun]

/-- An event, the callback's or the timer's, makes a check point (R413, D13, D36). -/
theorem timerAndService_of_event {event : Bool} {s : State} (h : event = true ∨ (timerStep (hostPause s)).2 = true) :
    timerAndService event s = service (timerStep (hostPause s)).1 :=
  if_pos (Bool.or_eq_true_iff.2 h)

theorem timerAndService_of_no_event {event : Bool} {s : State} (he : event = false)
    (ht : (timerStep (hostPause s)).2 = false) : timerAndService event s = (timerStep (hostPause s)).1 := by
  simp [timerAndService, he, ht]

/-- A callback that answers Quit stops the machine; nothing else but its own bookkeeping happens (R401). -/
theorem scanlineStep_quit {s : State} (h : 455 < s.scanCycles)
    (hq : (callbackValue { s with scanCycles := s.scanCycles - 455 }).result = .quit) :
    (scanlineStep s).1 = { callCallback { s with scanCycles := s.scanCycles - 455 } with status := .quit } := by
  rw [scanlineStep_over h, hq]
  rfl

/-- With Quit the iteration ends at the scanline step (R410, D35). -/
theorem afterInstr_quit {s : State} (hrun : s.status = .running) (h : 455 < s.scanCycles)
    (hq : (callbackValue { s with scanCycles := s.scanCycles - 455 }).result = .quit) :
    afterInstr s = (scanlineStep s).1 :=
  afterInstr_of_stopped hrun (by rw [scanlineStep_quit h hq]; exact nofun)

/-- Settles O55: `applyCallback` by its cases; after Quit the machine is stopped. -/
theorem callbackResultsMeanWhatTheySay : Obligations.CallbackResultsMeanWhatTheySay := by
  unfold Obligations.CallbackResultsMeanWhatTheySay
  intro s
  refine ⟨rfl, fun src => ⟨_, rfl, ?_, fun x hx => ?_⟩, rfl, fun hrun h hq => ?_⟩
  · rw [has_put, if_pos rfl]
  · rw [has_put, if_neg hx]
  · have hstatus : (afterInstr s).status = .quit := by rw [afterInstr_quit hrun h hq, scanlineStep_quit h hq]
    exact ⟨afterInstr_quit hrun h hq, hstatus, step_of_not_running (by rw [hstatus]; exact nofun)⟩

/-- Without an event only the pause and the period query happen (R413, D13). -/
theorem afterInstr_of_no_event {s : State} (hrun : s.status = .running) (hscan : s.scanCycles ≤ 455)
    (htimer : (hostPause s).timerDelta ≤ periodValue (hostPause s)) : afterInstr s = callPeriod (hostPause s) := by
  have hstep := scanlineStep_within hscan
  have hquery := timerStep_within htimer
  rw [afterInstr_of_running hrun (by rw [hstep]; exact hrun), hstep, timerAndService_of_no_event rfl (by rw [hquery]),
    hquery]

/-- Settles O54: one lemma an end of the iteration. -/
theorem interruptsOnlyAtCheckPoints : Obligations.InterruptsOnlyAtCheckPoints := by
  unfold Obligations.InterruptsOnlyAtCheckPoints
  intro s
  refine ⟨afterInstr_of_not_running, fun hrun hscan htimer => ?_, fun hrun h hq => ?_, fun hrun hgoes => ?_⟩
  · rw [afterInstr_of_no_event hrun hscan htimer]
    rfl
  · rw [afterInstr_quit hrun h hq, scanlineStep_quit h hq]
    exact ⟨rfl, rfl, rfl, rfl, rfl⟩
  · rw [afterInstr_of_running hrun hgoes]
    exact ⟨scanlineStep_ran_iff s, timerStep_fired_iff _, timerAndService_of_event, timerAndService_of_no_event⟩

/-! ## The service step (R414 to R416) -/

/-- What is left of `pending` once the undeliverable are dropped. -/
def deliverablePending (s : State) : Pending := dropUndeliverable s.p (maskValue s) s.pending

/-- NMI is always deliverable; a maskable source under I = 0 and its own mask (R414). -/
theorem deliverable_eq (p : Byte) (m : IrqMask) (src : Source) :
    deliverable p m src = (decide (src = .nmi) || (!flag p .i && !IrqMask.masked m src)) := by
  cases src <;> rfl

theorem has_dropUndeliverable (p : Byte) (m : IrqMask) (q : Pending) (src : Source) :
    (dropUndeliverable p m q).has src = (q.has src && deliverable p m src) := by
  cases src with
  | nmi => exact (Bool.and_true _).symm
  | irq | irq2 | timer => rfl

theorem has_deliverablePending (s : State) (src : Source) : (deliverablePending s).has src =
    (s.pending.has src && (decide (src = .nmi) || (!flag s.p .i && !IrqMask.masked (maskValue s) src))) := by
  rw [deliverablePending, has_dropUndeliverable, deliverable_eq]

/-- The first that is left, in the fixed order, is chosen (R415, D12). -/
theorem choose_deliverablePending (s : State) : choose (deliverablePending s) =
    [Source.nmi, .timer, .irq, .irq2].find? (deliverablePending s).has := by
  rw [deliverablePending, choose_eq]
  exact congrArg (List.find? · _) (funext fun src => (has_dropUndeliverable _ _ _ src).symm)

/-- Asking for the masks changes neither P nor `pending`, so that the sources are judged as they stood (R414). -/
theorem dropUndeliverable_callMasks (s : State) :
    dropUndeliverable (callMasks s).p (maskValue s) (callMasks s).pending = deliverablePending s := by
  rw [callMasks_state]
  rfl

theorem service_of_choose_none {s : State} (h : choose (deliverablePending s) = none) :
    service s = { callMasks s with pending := deliverablePending s } := by
  simp only [service, dropUndeliverable_callMasks, h]

theorem service_of_choose_some {s : State} {src : Source} (h : choose (deliverablePending s) = some src) :
    service s = enter src { callMasks s with pending := (deliverablePending s).put src false } := by
  simp only [service, dropUndeliverable_callMasks, h]

/-- Settles O58: what is left after the drop decides, and the source entered leaves `pending`. -/
theorem serviceEntersTheFirstDeliverable : Obligations.ServiceEntersTheFirstDeliverable := by
  unfold Obligations.ServiceEntersTheFirstDeliverable
  intro s
  simp only [← has_deliverablePending]
  rw [← choose_deliverablePending]
  cases h : choose (deliverablePending s) with
  | none =>
    refine ⟨callMasks s, deliverablePending s, callMasks_state s, ?_, ?_, nofun⟩
    · simp
    · exact fun _ => service_of_choose_none h
  | some src =>
    refine ⟨callMasks s, (deliverablePending s).put src false, callMasks_state s, fun x => ?_, nofun, fun x hx => ?_⟩
    · rw [has_put]
      by_cases hx : x = src
      · simp [hx]
      · simp [hx, Ne.symm hx]
    · cases hx
      exact service_of_choose_some h

/-! ## Interrupt entry and RTI (R417 to R421, R269) -/

/-- The state in which an interrupt entry reads its vector: PC and P as they stand pushed (D11). -/
def enterPushed (src : Source) (s : State) : State := interruptPushed s.pc s.p (src != .nmi) s

/-- The spec lemma of `enter`: the pushes, PC from the two bytes of the vector, low first, and 7 cycles (R417, R419). -/
theorem enter_eq (src : Source) (s : State) :
    let lo := memRead (vectorOf src) (enterPushed src s)
    let hi := memRead (vectorOf src + 1) lo.2
    enter src s =
      { hi.2 with pc := hi.1 ++ lo.1, scanCycles := s.scanCycles + 7, timerDelta := s.timerDelta + 7 } := by
  simp only [enter, takeInterrupt_eq]
  simp only [addCost, State.withPc, memRead16, memRead_scanCycles, memRead_timerDelta]
  rfl

/-- The pushed bytes lie from the stack pointer down (R417). -/
theorem pushed_enterPushed (src : Source) (s : State) :
    Pushed s (enterPushed src s) [hiByte s.pc, loByte s.pc, s.p] :=
  pushed_interruptPushed s.pc s.p (src != .nmi) s

/-- An interrupt keeps every flag but D and I (R268, R417). -/
theorem keeps_interruptP {fs : List Flag} (hd : Flag.d ∉ fs) (hi : Flag.i ∉ fs) (setI : Bool) (p : Byte) :
    Keeps p (interruptP setI p) fs := by
  have hclear := keeps_setFlag hd p false
  cases setI with
  | false => exact hclear
  | true => exact keeps_trans hclear (keeps_setFlag hi _ true)

theorem interruptP_d (setI : Bool) (p : Byte) : flag (interruptP setI p) .d = false := by
  cases setI <;> simp [interruptP]

theorem interruptP_i (setI : Bool) (p : Byte) : flag (interruptP setI p) .i = (setI || flag p .i) := by
  cases setI <;> simp [interruptP]

/-- Settles O59: `enter` reads the source's vector after the pushes. -/
theorem interruptEntrySavesPcAndP : Obligations.InterruptEntrySavesPcAndP := by
  unfold Obligations.InterruptEntrySavesPcAndP
  intro src vector hmem s
  obtain rfl : vectorOf src = vector := by
    simp only [List.mem_cons, Prod.mk.injEq, List.not_mem_nil, or_false] at hmem
    obtain ⟨rfl, rfl⟩ | ⟨rfl, rfl⟩ | ⟨rfl, rfl⟩ | ⟨rfl, rfl⟩ := hmem <;> rfl
  refine ⟨_, _, enter_eq src s, pushed_enterPushed src s, interruptP_d _ _, fun hsrc => ?_, fun hsrc => ?_,
    keeps_interruptP (by decide) (by decide) _ _⟩
  · simp [interruptP_i, hsrc]
  · simp [interruptP_i, hsrc]

/-- What an interrupt entry leaves of S and memory (R417). -/
theorem enter_sp_mem (src : Source) (s : State) :
    (enter src s).sp = s.sp - 3 ∧ (enter src s).mem = (enterPushed src s).mem := by
  rw [enter_eq]
  simp only [memRead_sp, memRead_mem, and_true]
  rfl

/-- RTI where the three bytes of an interrupt lie below the stack pointer `sp` (R269). -/
theorem returnFromInterrupt_of_pushed {s : State} {sp p : Byte} {ret : Word} (hsp : s.sp = sp - 3)
    (hhi : s.mem.read (stackCell sp) = hiByte ret) (hlo : s.mem.read (stackCell (sp - 1)) = loByte ret)
    (hp : s.mem.read (stackCell (sp - 2)) = p) :
    returnFromInterrupt s = { s with pc := ret, sp := sp, p := setFlag p .b false } := by
  have h1 : sp - 3 + 1 = sp - 2 := by bv_omega
  have h2 : sp - 3 + 2 = sp - 1 := by bv_omega
  have h3 : sp - 3 + 3 = sp := BitVec.sub_add_cancel sp 3
  rw [returnFromInterrupt_eq, hsp, h1, h2, h3, hhi, hlo, hp, mkWord_bytes]

/-- Settles O60: the three bytes still there are PC and P as they stood. -/
theorem rtiUndoesInterruptEntry : Obligations.RtiUndoesInterruptEntry := by
  unfold Obligations.RtiUndoesInterruptEntry
  intro src s r hsp hkept
  obtain ⟨hentrySp, hentryMem⟩ := enter_sp_mem src s
  obtain ⟨hbytes, -⟩ := pushed_enterPushed src s
  have hstill : ∀ n < 3, ∀ v, [hiByte s.pc, loByte s.pc, s.p][n]? = some v →
      r.mem.read (stackCell (s.sp - BitVec.ofNat 8 n)) = v := by
    intro n hn v hv
    rw [hkept n hn, hentryMem, hbytes n v hv]
  have hhi : r.mem.read (stackCell s.sp) = hiByte s.pc := by simpa using hstill 0 (by decide) _ rfl
  have hback := returnFromInterrupt_of_pushed (s := start 0x40 1 r) (hsp.trans hentrySp) hhi
    (hstill 1 (by decide) _ rfl) (hstill 2 (by decide) _ rfl)
  refine ⟨_, congrArg Host.Outcome.next hback, rfl, rfl, ?_, keeps_setFlag (by decide) s.p false⟩
  simp

end Sys2Proof.Laws
end

section
/-! SUPPORT. Reset (70_reset_and_hazards.md R460; 10_state.md R59): the P byte it leaves, what reading the vector leaves
unchanged, and the state after it. -/

namespace Sys2Proof.Laws

open Sys2Proof.Machine
open Sys2Proof.Claims

/-! ## The P byte (R59) -/

theorem flag_zero (f : Flag) : flag 0#8 f = false := BitVec.getLsbD_zero

/-- I is set, the four flags R59 gives no value are drawn, and D, T and B are clear. -/
theorem flag_resetP (b : Boot) (f : Flag) : flag (resetP b) f =
    if f = .n then b.n else if f = .v then b.v else if f = .z then b.z else if f = .c then b.c
      else decide (f = .i) := by
  simp [resetP, flag_zero]

/-! ## Reading the vector (R74, R77) -/

/-- A word read changes nothing but the record of calls. -/
theorem memRead16_state (addr : Word) (s : State) : (memRead16 addr s).2 = withCallsOf (memRead16 addr s).2 s := by
  simp only [memRead16]
  rw [memRead_state (addr + 1), memRead_state addr s]
  rfl

/-- A word read from buffers makes no call. -/
theorem memRead16_buffer {addr : Word} {s : State} {k l : Nat} (hlo : readCell addr s = some k)
    (hhi : readCell (addr + 1) s = some l) : memRead16 addr s = (mkWord (s.mem.read l) (s.mem.read k), s) := by
  simp only [memRead16, memRead_buffer hlo, memRead_buffer hhi]

/-- Both bytes of the reset vector lie in slot 7 (R460). -/
theorem memRead16_resetVector_buffer {s : State} (h : s.pageR.get 7 ≠ .io) : (memRead16 resetVector s).2 = s := by
  cases h7 : s.pageR.get 7 with
  | io => exact absurd h7 h
  | buf w =>
    have hlo : readCell resetVector s = some _ := readCell_buf h7
    have hhi : readCell (resetVector + 1) s = some _ := readCell_buf h7
    rw [memRead16_buffer hlo hhi]

/-- The spec lemma of `resetWith`: the boot state with PC from the vector, and the calls of that read (R460). -/
theorem resetWith_eq (b : Boot) : resetWith b =
    { withCallsOf (memRead16 resetVector (bootState b)).2 (bootState b) with
      pc := (memRead16 resetVector (bootState b)).1 } := by
  rw [← memRead16_state]
  rfl

theorem resetWith_p (b : Boot) : (resetWith b).p = resetP b := by
  rw [resetWith_eq]
  rfl

theorem resetWith_calls {b : Boot} (h : b.pageR.get 7 ≠ .io) : (resetWith b).calls = [] := by
  rw [resetWith_eq, memRead16_resetVector_buffer (s := bootState b) h]
  rfl

/-! ## The obligations -/

/-- With nothing loaded the vector reads as zero (log 4, 5, 6, 8). -/
theorem reset_eq_resetWith : State.reset = resetWith Boot.named := by decide

/-- Settles O8: nothing is listed in memory, and the machine is Running. -/
theorem invAtReset : Obligations.InvAtReset := by
  unfold Obligations.InvAtReset
  exact ⟨⟨.nil, nofun⟩, haltInfoTrue_of_status (.inl rfl)⟩

/-- Settles O9: reset is the boot state but for PC and the calls of reading the vector, and those lie in slot 7. -/
theorem resetReadsTheVector : Obligations.ResetReadsTheVector := by
  unfold Obligations.ResetReadsTheVector
  refine ⟨fun b => ?_, reset_eq_resetWith⟩
  have hcalls : b.pageR.get 7 ≠ .io → (resetWith b).calls = [] := resetWith_calls
  simp only [resetWith_p, flag_resetP]
  rw [resetWith_eq] at hcalls ⊢
  exact ⟨rfl, rfl, rfl, rfl, rfl, rfl, rfl, rfl, rfl, rfl, rfl, rfl, rfl, rfl, rfl, rfl, rfl, rfl, rfl, rfl,
    rfl, hcalls⟩

end Sys2Proof.Laws
end
